-- ==== Sys2Proof/Word.lean ====
section
/-! DEFINITION. The words of the ME24: bytes of the lanes, words of the host window, stamps, and the numbers that name ports, memories, slots and regions. -/

namespace Sys2Proof

/-- One byte of a report lane (R176). -/
abbrev Byte := BitVec 8

/-- One 16-bit word of the host window (chapter 10). -/
abbrev Word := BitVec 16

/-- A value of the 32-bit stamp counter (R51). -/
abbrev Stamp := BitVec 32

/-- A report port, 0 to 5 (R78). -/
abbrev PortIx := Fin 6

/-- A memory id, 0 to 15 (R33). -/
abbrev MemId := Fin 16

/-- A slot of the C-table, C0 to C31 (R2). -/
abbrev CSlot := Fin 32

/-- A slot of the S-table, S0 to S15 (R2). -/
abbrev SSlot := Fin 16

/-- A region: 0 to 11, and 12 for the default region D (R38, R179). -/
abbrev RegionIx := Fin 13

/-- A granule number. A byte address has 32 bits and a granule at least 8 bytes, so 29 bits hold every granule number (R33). -/
abbrev Granule := BitVec 29

/-- The tag of a verify request (R103). -/
abbrev Tag := BitVec 4

/-- The number of input clock periods of a low period, or of a bit time (R176). -/
abbrev Clocks := Nat

end Sys2Proof
end

