-- ==== Sys2Proof/Config.lean ====
section
/-! DEFINITION. What the design of the part fixes: its capacities, its limits and its power-on settings. The guide leaves no result's value open, so there is no free value here. -/

namespace Sys2Proof.Config

/-- Reports that a port's inbound queue holds (R87). -/
def portQueueDepth : Nat := 4

/-- Jobs that the verify queue holds (R104). -/
def verifyQueueDepth : Nat := 8

/-- Notices that the notice queue holds (R128). -/
def noticeQueueDepth : Nat := 16

/-- C-records that may be pinned at one time (R28). -/
def pinLimit : Nat := 24

/-- The largest size of a memory, 2^29 granules (Table 2-1). -/
def maxGranules : Nat := 536870912

/-- The word that the ID register holds: part 24h, revision 01h (Table 11-3). -/
def idWord : Word := 0x2401#16

/-- Power-on value of the prescaler divisor less one: divisor 16000 (Table 10-4). -/
def divisorLessOne : Word := 15999#16

/-- Power-on verify timeout in ticks (Table 10-4). -/
def verifyTimeout : BitVec 12 := 200#12

/-- Power-on retry limit (Table 10-4). -/
def retryLimit : BitVec 3 := 3#3

/-- Power-on frame timeout in ticks (Table 10-4). -/
def frameTimeout : BitVec 8 := 5#8

/-- Power-on notice acknowledge window in ticks (Table 10-4). -/
def ackWindow : Word := 1000#16

/-- Power-on fault hold time in ticks (Table 10-4). -/
def faultHold : Word := 5000#16

/-- Shortest low period that is a start delimiter, in input clock periods (R176). -/
def delimiterMin : Nat := 64

/-- Longest low period that is a start delimiter, in input clock periods (R176). -/
def delimiterMax : Nat := 65536

/-- Bit times of a start delimiter: its length divided by this is the frame's bit time (R176). -/
def delimiterBits : Nat := 16

/-- A low period of more than this many bit times ends a frame under reception (R176). -/
def longLowBits : Nat := 12

end Sys2Proof.Config
end

