-- ==== Sys2Proof/Syntax.lean ====
section
/-! DEFINITION. The commands of the ME24: one constructor for each row of spec/opcode_table.json, with the operands the happening carries from outside. A host command has no operand where the guide puts its parameters in PARAM0 to PARAM5: its owner reads them there when it takes the command (R69, R96, R168). -/

namespace Sys2Proof

/-- The fields of a REPORT frame as they travel on the lane (Tables 11-1 and 11-2). The two presence flags of the kind
byte say whether `master` and `syndrome` are there. -/
structure ReportFrame where
  /-- Sequence number. -/
  seq : Byte
  /-- Kind code, bits 2:0 of the kind byte; 1 to 5 are the five kinds. -/
  kind : BitVec 3
  /-- Bits 5:3 of the kind byte, which the port ignores. -/
  ignored : BitVec 3 := 0#3
  /-- Memory id byte. -/
  mem : Byte
  /-- Byte address. -/
  addr : BitVec 32
  /-- Master id byte, where its flag is set; bits 7:6 are ignored (R178). -/
  master : Option Byte := none
  /-- Syndrome, where its flag is set. -/
  syndrome : Option Word := none
  deriving DecidableEq, Repr

/-- Which retained entries hold a code that no longer agrees with their contents when WRST is released: the outcome of
a disturbance while WRST was held (section 9.1). Bit k of a mask names entry k. -/
structure Disturbance where
  /-- Memory entries 0 to 15. -/
  memories : BitVec 16 := 0#16
  /-- Records of the C-table, C0 to C31. -/
  cRecords : BitVec 32 := 0#32
  /-- Records of the S-table, S0 to S15. -/
  sRecords : BitVec 16 := 0#16
  /-- Region entries 0 to 11 and, as bit 12, the default region D. -/
  regions : BitVec 13 := 0#13
  /-- The settings store. -/
  settings : Bool := false
  deriving DecidableEq, Repr

/-- A low period on an inbound lane with the high period before it, both in input clock periods (R176). -/
structure LowPeriod where
  /-- How long the line was high before the low period. -/
  high : Clocks
  /-- How long the line was low. -/
  low : Clocks
  deriving DecidableEq, Repr

/-- The commands: one constructor for each row of the table of operations and events. -/
inductive Instr where
  /-- TAKE_REPORT (R66). -/
  | takeReport
  /-- TAKE_ANSWERED_JOB (R117). -/
  | takeAnsweredJob
  /-- ENTER_CONFIG (R71). -/
  | enterConfig
  /-- LEAVE_CONFIG (R73). -/
  | leaveConfig
  /-- SET_MEMORY (R36). -/
  | setMemory
  /-- READ_MEMORY (R37). -/
  | readMemory
  /-- SET_REGION (R47). -/
  | setRegion
  /-- READ_REGION (R49). -/
  | readRegion
  /-- UNMUTE_REGION (R46). -/
  | unmuteRegion
  /-- FETCH_RECORD (R25). -/
  | fetchRecord
  /-- FIND_RECORD (R26). -/
  | findRecord
  /-- RETIRE_RECORD (R27). -/
  | retireRecord
  /-- PIN_RECORD (R28). -/
  | pinRecord
  /-- UNPIN_RECORD (R29). -/
  | unpinRecord
  /-- SETTLE_RECORD (R30). -/
  | settleRecord
  /-- CLEAR_TABLES (R31). -/
  | clearTables
  /-- VERIFY_RECORD (R122). -/
  | verifyRecord
  /-- SET_PORT (R97). -/
  | setPort
  /-- RESTART_PORT (R98). -/
  | restartPort
  /-- FLUSH_PORT (R99). -/
  | flushPort
  /-- READ_PORT (R100). -/
  | readPort
  /-- ACK_NOTICE (R134). -/
  | ackNotice
  /-- CLEAR_FAULT (R150). -/
  | clearFault
  /-- READ_REACTION (R152). -/
  | readReaction
  /-- SET_TIMING (R171): the host writes code 17h to COMMAND. -/
  | setTiming
  /-- READ_TIMING (R173): the host writes code 18h to COMMAND. -/
  | readTiming
  /-- UNKNOWN_COMMAND (R165): the host writes an unknown code to COMMAND. -/
  | unknownCommand (code : Word)
  /-- COMMAND_OVERRUN (R166): the host writes a code to COMMAND while the command state is BUSY. -/
  | commandOverrun (code : Word)
  /-- SET_INTERRUPT_ENABLES (R174): the host writes a word to CONTROL. -/
  | setInterruptEnables (word : Word)
  /-- MARK_SEEN (R169): the host writes a word to CONTROL with its seen bit set. -/
  | markSeen (word : Word)
  /-- STAMP_LO_READ (R55). -/
  | stampLoRead
  /-- REGISTER_WRITE (R163): the host writes a word at a word address. -/
  | registerWrite (addr : BitVec 5) (word : Word)
  /-- START_DELIMITER (R80, R176): a low period on a port's inbound lane. -/
  | startDelimiter (port : PortIx) (period : LowPeriod)
  /-- HELLO (R84, R85): a good HELLO frame completes. -/
  | hello (port : PortIx) (next : Byte) (reporter : Word)
  /-- REPORT (R86): a good REPORT frame completes. -/
  | report (port : PortIx) (frame : ReportFrame)
  /-- VERDICT (R91): a good VERDICT frame completes; tag byte and result byte. -/
  | verdict (port : PortIx) (tag : Byte) (result : Byte)
  /-- BAD_FRAME (R81, R176): the bits sampled since the start delimiter, high as true, make a bad frame. -/
  | badFrame (port : PortIx) (bits : List Bool)
  /-- FRAME_TIMEOUT (R82). -/
  | frameTimeout (port : PortIx)
  /-- LONG_LOW_PERIOD (R176): a low period that is no start delimiter. -/
  | longLowPeriod (port : PortIx) (period : LowPeriod)
  /-- OUTBOUND_FRAME_SENT (R83). -/
  | outboundFrameSent (port : PortIx)
  /-- DISPATCH (R108): the scheduler's decision for one port. -/
  | dispatch (port : PortIx)
  /-- TAKE_DISPATCH (R109). -/
  | takeDispatch (port : PortIx)
  /-- PREEMPT (R114): the scheduler's decision for one port. -/
  | preempt (port : PortIx)
  /-- VERIFY_TIMEOUT (R112): of the job for the record in one C slot. -/
  | verifyTimeout (slot : CSlot)
  /-- CANCEL_REQUEST (R94). -/
  | cancelRequest (port : PortIx)
  /-- NOTICE_DEADLINE (R137): of the notice with one sequence number. -/
  | noticeDeadline (seq : Word)
  /-- FAULT_HOLD_EXPIRY (R148). -/
  | faultHoldExpiry
  /-- DECAY_DEADLINE (R45). -/
  | decayDeadline (region : RegionIx)
  /-- TICK (R52). -/
  | tick
  /-- PORST_ASSERT (R54). -/
  | porstAssert
  /-- PORST_RELEASE (R153). -/
  | porstRelease
  /-- WRST_ASSERT (R155). -/
  | wrstAssert
  /-- END_OF_WARM_RESET (R157): WRST is released. -/
  | endOfWarmReset (disturbed : Disturbance)
  /-- COMMAND_ACCEPTED (R165): the host writes a known code to COMMAND. -/
  | commandAccepted (code : Word)
  deriving DecidableEq, Repr

end Sys2Proof
end

