-- ==== Sys2Proof/Decode.lean ====
section
/-! DEFINITION. Frames on the lanes (R177, R178, Tables 11-1 and 11-2): the check code, the bytes of an inbound frame and what a port makes of the bytes it receives, and the bits of bytes and frames on a lane (R176). The rows of the table of operations give no bits, so no word spells a command. -/

namespace Sys2Proof

/-- The command a word spells by the table's bits: none, since no row of spec/opcode_table.json gives bits. -/
def decodeTableWord (_nbits _w : Nat) : Option Instr := none

/-- One bit of the CRC register's march: the register moves up by one and, where a one falls out, takes the polynomial
x^16 + x^12 + x^5 + 1 (R177). -/
def crcBit (crc : BitVec 16) : BitVec 16 :=
  if crc.msb then (crc <<< 1) ^^^ 0x1021#16 else crc <<< 1

/-- The CRC register after one byte, most significant bit first (R177). -/
def crcByte (crc : BitVec 16) (b : Byte) : BitVec 16 :=
  crcBit (crcBit (crcBit (crcBit (crcBit (crcBit (crcBit (crcBit
    (crc ^^^ (b.setWidth 16 <<< 8)))))))))

/-- The check code of the type byte and field bytes: initial value of all ones, no final inversion (R177). -/
def checkCode (bytes : List Byte) : BitVec 16 :=
  bytes.foldl crcByte 0xFFFF#16

/-- The high byte of a 16-bit field, sent first (section 11.2). -/
def hiByte (w : Word) : Byte := w.extractLsb' 8 8

/-- The low byte of a 16-bit field. -/
def loByte (w : Word) : Byte := w.extractLsb' 0 8

/-- A 16-bit field as two bytes, most significant first (section 11.2). -/
def bytes16 (w : Word) : List Byte := [hiByte w, loByte w]

/-- A 32-bit field as four bytes, most significant first (section 11.2). -/
def bytes32 (w : BitVec 32) : List Byte :=
  [w.extractLsb' 24 8, w.extractLsb' 16 8, w.extractLsb' 8 8, w.extractLsb' 0 8]

/-- Two received bytes as a 16-bit field. -/
def join16 (hi lo : Byte) : Word := hi ++ lo

/-- Four received bytes as a 32-bit field. -/
def join32 (b3 b2 b1 b0 : Byte) : BitVec 32 := b3 ++ b2 ++ b1 ++ b0

/-- A good inbound frame (Table 11-1). -/
inductive InFrame where
  | hello (next : Byte) (reporter : Word)
  | report (frame : ReportFrame)
  | verdict (tag result : Byte)
  deriving DecidableEq, Repr

/-- The kind byte of a REPORT: the presence flags in bits 7 and 6, the ignored bits 5:3, the kind code (Table 11-2). -/
def ReportFrame.kindByte (f : ReportFrame) : Byte :=
  BitVec.ofBool f.master.isSome ++ BitVec.ofBool f.syndrome.isSome ++ f.ignored ++ f.kind

/-- An optional byte on the lane. -/
def optByte (b : Option Byte) : List Byte := b.toList

/-- An optional 16-bit field on the lane. -/
def optWord (w : Option Word) : List Byte := (w.map bytes16).getD []

/-- Type byte and fields of an inbound frame, in the order of Table 11-1. -/
def InFrame.body : InFrame → List Byte
  | .hello next reporter => [0x01#8, next] ++ bytes16 reporter
  | .report f =>
    [0x02#8, f.seq, f.kindByte, f.mem] ++ bytes32 f.addr ++ optByte f.master ++ optWord f.syndrome
  | .verdict tag result => [0x03#8, tag, result]

/-- A frame on the lane after its start delimiter: the body and its check code, high byte first (R177). -/
def withCheck (body : List Byte) : List Byte := body ++ bytes16 (checkCode body)

/-- The bytes of an inbound frame. -/
def InFrame.bytes (f : InFrame) : List Byte := withCheck f.body

/-- What the bytes received since a start delimiter make: a good frame, a bad frame, or a frame not yet complete. -/
inductive Received where
  | good (f : InFrame)
  | bad
  | incomplete
  deriving DecidableEq, Repr

/-- The length of a frame by its type byte and, for a REPORT, by the presence flags of its kind byte, without the two
check bytes; none for a type byte that is none of the three, or where the bytes that decide it have not come (R177). -/
def bodyLength : List Byte → Option Nat
  | 0x01#8 :: _ => some 4
  | 0x02#8 :: _ :: kind :: _ => some (8 + kind.msb.toNat + 2 * (kind.getLsbD 6).toNat)
  | 0x03#8 :: _ => some 3
  | _ => none

/-- Whether a byte is the type of an inbound frame (R177). -/
def isInboundType (t : Byte) : Bool := t = 0x01#8 || t = 0x02#8 || t = 0x03#8

/-- The fields of a body whose length is that of its type (Table 11-1). -/
def parseBody : List Byte → Option InFrame
  | [0x01#8, next, hi, lo] => some (.hello next (join16 hi lo))
  | [0x03#8, tag, result] => some (.verdict tag result)
  | 0x02#8 :: seq :: kind :: mem :: a3 :: a2 :: a1 :: a0 :: rest =>
    let base : ReportFrame :=
      { seq := seq, kind := kind.extractLsb' 0 3, ignored := kind.extractLsb' 3 3, mem := mem,
        addr := join32 a3 a2 a1 a0 }
    match kind.msb, kind.getLsbD 6, rest with
    | false, false, [] => some (.report base)
    | true, false, [m] => some (.report { base with master := some m })
    | false, true, [hi, lo] => some (.report { base with syndrome := some (join16 hi lo) })
    | true, true, [m, hi, lo] =>
      some (.report { base with master := some m, syndrome := some (join16 hi lo) })
    | _, _, _ => none
  | _ => none

/-- What a port makes of the bytes received since the start delimiter (R80, R177). A type byte that is none of the
three makes the frame bad at that byte; a frame completes with its second check byte, and is bad where the check
differs. Bytes after the second check byte belong to no frame. -/
def receive (bytes : List Byte) : Received :=
  match bytes with
  | [] => .incomplete
  | t :: _ =>
    if isInboundType t then
      match bodyLength bytes with
      | none => .incomplete
      | some n =>
        if bytes.length < n + 2 then .incomplete
        else if bytes.drop n |>.take 2 |> (· == bytes16 (checkCode (bytes.take n))) then
          match parseBody (bytes.take n) with
          | some f => .good f
          | none => .bad
        else .bad
    else .bad

/-! ## Bytes and frames on a lane -/

/-- The bits of a byte on a lane, one for each bit time, high as true: a start bit (low), eight data bits with the most
significant bit first, a stop bit (high) (R176). -/
def byteBits (b : Byte) : List Bool :=
  [false, b.getLsbD 7, b.getLsbD 6, b.getLsbD 5, b.getLsbD 4, b.getLsbD 3, b.getLsbD 2, b.getLsbD 1, b.getLsbD 0, true]

/-- Eight data bits as a byte, the most significant bit first (R176). -/
def byteOfBits (b7 b6 b5 b4 b3 b2 b1 b0 : Bool) : Byte :=
  BitVec.ofBool b7 ++ BitVec.ofBool b6 ++ BitVec.ofBool b5 ++ BitVec.ofBool b4 ++ BitVec.ofBool b3 ++
    BitVec.ofBool b2 ++ BitVec.ofBool b1 ++ BitVec.ofBool b0

/-- The bytes that sampled bits hold: while the line is high no byte begins, and a start bit opens ten bit times (R176).
The level sampled in the stop bit's place is not judged, and after a low one a next low sample is a start bit, although
the line has not fallen (log entry 23). -/
def bytesOnLane : List Bool → List Byte
  | true :: rest => bytesOnLane rest
  | false :: b7 :: b6 :: b5 :: b4 :: b3 :: b2 :: b1 :: b0 :: _stop :: rest =>
    byteOfBits b7 b6 b5 b4 b3 b2 b1 b0 :: bytesOnLane rest
  | _ => []

/-- A frame on a lane, one bit for each bit time: a start delimiter of 16 bit times low, at least one bit time high, and
its bytes. `extra` is how many bit times more than one the line is high, which the guide leaves open (R176). -/
def frameBits (extra : Nat) (bytes : List Byte) : List Bool :=
  List.replicate Config.delimiterBits false ++ List.replicate (1 + extra) true ++ bytes.flatMap byteBits

/-- The codes of Table 11-5 (R179). -/
def isKnownCode (code : Word) : Bool := 0x01#16 ≤ code && code ≤ 0x18#16

/-- A low period that is taken as a start delimiter (R176). -/
def isDelimiter (low : Clocks) : Bool := Config.delimiterMin ≤ low && low ≤ Config.delimiterMax

end Sys2Proof
end

