-- ==== Sys2Proof/WellFormed.lean ====
section
/-! DEFINITION. Which operands a command can carry: the checks that tie a command to its own row of the table. -/

namespace Sys2Proof

/-- A command whose operands are those of its own row: a code is known or unknown as the row says, a low period is or is
not a start delimiter, the bits of a bad frame make one, a write to CONTROL or COMMAND has a row of its own. -/
def Instr.wf : Instr → Bool
  | .commandAccepted code => isKnownCode code
  | .unknownCommand code => !isKnownCode code
  | .markSeen word => word.getLsbD 2
  | .registerWrite addr _ => addr != 0x03#5 && addr != 0x04#5
  | .startDelimiter _ p => isDelimiter p.low
  | .longLowPeriod _ p => !isDelimiter p.low
  | .badFrame _ bits => receive (bytesOnLane bits) == .bad
  | .takeReport | .takeAnsweredJob | .enterConfig | .leaveConfig | .setMemory | .readMemory | .setRegion
  | .readRegion | .unmuteRegion | .fetchRecord | .findRecord | .retireRecord | .pinRecord | .unpinRecord
  | .settleRecord | .clearTables | .verifyRecord | .setPort | .restartPort | .flushPort | .readPort | .ackNotice
  | .clearFault | .readReaction | .setTiming | .readTiming | .commandOverrun _ | .setInterruptEnables _
  | .stampLoRead | .hello _ _ _ | .report _ _ | .verdict _ _ _ | .frameTimeout _ | .outboundFrameSent _
  | .dispatch _ | .takeDispatch _ | .preempt _ | .verifyTimeout _ | .cancelRequest _ | .noticeDeadline _
  | .faultHoldExpiry | .decayDeadline _ | .tick | .porstAssert | .porstRelease | .wrstAssert
  | .endOfWarmReset _ => true

end Sys2Proof
end

