-- ==== Sys2Proof/Machine/State.lean ====
section
/-! DEFINITION. Everything the guide gives the ME24 to hold, as plain data, and its values after power-on reset. -/

namespace Sys2Proof.Machine

/-! ## Records (chapter 1) -/

/-- The name of one granule of one memory (R1, R2). -/
structure Key where
  mem : MemId
  granule : Granule
  deriving DecidableEq, Repr

/-- The five kinds of report (Table 0-2). -/
inductive Kind where
  | corr1 | corrM | scrub | uncorr | addrChk
  deriving DecidableEq, Repr

/-- The fields common to C-records and S-records (Table 1-1), with whether the integrity code agrees with the record's
contents (R8). `kinds` holds the set of kinds seen as the view shows it: CORR1, CORRM, SCRUB, UNCORR, ADDRCHK from bit
0 up (Table 11-6). -/
structure RecordCore where
  key : Key
  region : RegionIx
  hits : Word
  kinds : BitVec 5
  firstStamp : Stamp
  lastStamp : Stamp
  firstMaster : Option (BitVec 6)
  lastMaster : Option (BitVec 6)
  syndrome : Option Word
  version : Byte
  codeAgrees : Bool
  deriving DecidableEq, Repr

/-- The state of a C-record (R9). -/
inductive CMode where
  | counting | suspect | hard | unverified
  deriving DecidableEq, Repr

/-- The outcome of a C-record's latest verification (Table 1-2). -/
inductive LastVerdict where
  | none | clean | persists | exhausted
  deriving DecidableEq, Repr

/-- Why a C-record was judged HARD (Table 1-2). -/
inductive HardReason where
  | persists | repeatedSoft
  deriving DecidableEq, Repr

/-- A C-record (Tables 1-1 and 1-2). -/
structure CRecord where
  core : RecordCore
  mode : CMode
  pinned : Bool
  hitsSinceVerdict : Word
  softVerdicts : BitVec 4
  lastVerdict : LastVerdict
  hardReason : Option HardReason
  deriving DecidableEq, Repr

/-- The state of an S-record (R10). -/
inductive SMode where
  | opened | settled
  deriving DecidableEq, Repr

/-- Where an S-record came from (Table 1-3). -/
inductive Origin where
  | created | promoted
  deriving DecidableEq, Repr

/-- An S-record (Tables 1-1 and 1-3). -/
structure SRecord where
  core : RecordCore
  mode : SMode
  origin : Origin
  deriving DecidableEq, Repr

/-- The slot that a notice or a view names (Table 7-2). -/
inductive RecRef where
  | c (slot : CSlot)
  | s (slot : SSlot)
  deriving DecidableEq, Repr

/-! ## Memories and regions (chapter 2) -/

/-- The ten granule sizes (Table 2-1). -/
inductive GranuleSize where
  | g8 | g16 | g32 | g64 | g128 | g256 | g512 | g1024 | g2048 | g4096
  deriving DecidableEq, Repr

/-- A memory entry (R33) with whether its integrity code agrees (R156). Owner `none` is NONE. -/
structure MemoryEntry where
  owner : Option PortIx
  granuleSize : GranuleSize
  size : Nat
  codeAgrees : Bool
  deriving DecidableEq, Repr

/-- The range fields of a region entry 0 to 11 (Table 2-3). -/
structure RegionRange where
  enabled : Bool
  mem : MemId
  base : Granule
  limit : Granule
  deriving DecidableEq, Repr

/-- The severe class of a region (Table 2-3). -/
inductive SevereClass where
  | notice | deadline | immediate
  deriving DecidableEq, Repr

/-- The policy fields of a region (Table 2-3). -/
structure RegionPolicy where
  threshold : BitVec 8
  verifyEnable : Bool
  softLimit : BitVec 4
  burstLimit : BitVec 8
  decayPeriod : Word
  severeClass : SevereClass
  deriving DecidableEq, Repr

/-- The state fields of a region (Table 2-3). -/
structure RegionCounts where
  muted : Bool
  burst : BitVec 8
  decayDeadline : Option Stamp
  accepted : Word
  unrecorded : Word
  evictions : Word
  mutedReports : Word
  deriving DecidableEq, Repr

/-- A region 0 to 11 or D but for its range: policy, state fields, and whether the integrity code over its range and
policy fields agrees (R38). -/
structure Region where
  policy : RegionPolicy
  counts : RegionCounts
  codeAgrees : Bool
  deriving DecidableEq, Repr

/-! ## The record engine (chapter 4) -/

/-- The engine state (R61). -/
inductive EngineMode where
  | config | run
  deriving DecidableEq, Repr

/-- What the record engine holds and alone writes (R59). -/
structure Engine where
  mode : EngineMode
  cTable : Vector (Option CRecord) 32
  sTable : Vector (Option SRecord) 16
  pinnedCount : Nat
  cFullArmed : Bool
  lastServed : PortIx
  memories : Vector MemoryEntry 16
  ranges : Vector RegionRange 12
  regions : Vector Region 13
  deriving DecidableEq, Repr

/-! ## Report ports (chapter 5) -/

/-- The state of a port (R79). -/
inductive PortMode where
  | down | listen | ready | halted
  deriving DecidableEq, Repr

/-- A report accepted by a port (Table 0-2). -/
structure Report where
  seq : Byte
  kind : Kind
  mem : MemId
  addr : BitVec 32
  master : Option (BitVec 6)
  syndrome : Option Word
  deriving DecidableEq, Repr

/-- Why a port refuses a frame (Table 5-3). -/
inductive NakReason where
  | busy | notReady | halted | sequence | foreign | range
  deriving DecidableEq, Repr

/-- A frame a port sends (Table 11-1). -/
inductive OutFrame where
  | welcome (port : PortIx) (expected : Byte)
  | ack (seq : Byte)
  | nak (seq : Byte) (reason : NakReason)
  | verify (tag : Tag) (mem : MemId) (addr : BitVec 32)
  | cancel (tag : Tag)
  deriving DecidableEq, Repr

/-- A frame under reception: its frame timeout deadline (R80) and its bit time (R176). -/
structure Reception where
  deadline : Stamp
  bitTime : Clocks
  deriving DecidableEq, Repr

/-- A frame being sent and the bit time it keeps (R83, R176). -/
structure Sending where
  frame : OutFrame
  bitTime : Option Clocks
  deriving DecidableEq, Repr

/-- What a report port holds (Table 5-1). The outbound list is `sending` followed by `waiting`. `ignoring` is present
after a low period that ended a frame and was no start delimiter, with the bit time for which the line must have been
high before the port takes a delimiter again (R176). -/
structure Port where
  mode : PortMode
  haltOnError : Bool
  queue : List Report
  expected : Byte
  lastAccepted : Option Byte
  reporterId : Option Word
  outstanding : Option Tag
  rx : Option Reception
  ignoring : Option Clocks
  bitTime : Option Clocks
  sending : Option Sending
  waiting : List OutFrame
  checkErrors : Byte
  sequenceErrors : Byte
  staleVerdicts : Byte
  flushed : Byte
  deriving DecidableEq, Repr

/-! ## The verify scheduler (chapter 6) -/

/-- The class of a job (R105). -/
inductive JobClass where
  | urgent | normal
  deriving DecidableEq, Repr

/-- Why a cancel request was handed for a job in flight (Table 6-1). -/
inductive CancelReason where
  | preempted | timedOut
  deriving DecidableEq, Repr

/-- The answer of a job (Table 6-1). -/
inductive Answer where
  | clean | persists | failed
  deriving DecidableEq, Repr

/-- The state of a job with the fields present in it (Table 6-1). -/
inductive JobMode where
  | queued (offer : Option (PortIx × Tag))
  | inFlight (port : PortIx) (tag : Tag) (deadline : Option Stamp) (cancel : Option CancelReason)
  | answered (port : PortIx) (tag : Tag) (answer : Answer)
  deriving DecidableEq, Repr

/-- A verify job (R103): its record by slot and key, its class, its attempts and its state. `id` is the model's own: the
name by which a dispatch names the job (R93), which no other job has between two resets. -/
structure Job where
  id : Nat
  slot : CSlot
  key : Key
  cls : JobClass
  attempts : BitVec 3
  mode : JobMode
  deriving DecidableEq, Repr

/-- What the scheduler hands a port and the port takes in the order handed (R110). A dispatch names a job and carries the
tag drawn for it, the memory id and the byte address (R93). -/
inductive Handover where
  | dispatch (job : Nat) (tag : Tag) (mem : MemId) (addr : BitVec 32)
  | cancel (tag : Tag)
  deriving DecidableEq, Repr

/-- What the verify scheduler holds: the jobs in queue order (R105), the slots of the jobs ANSWERED in the order in which
they became so (R105), the tag counters (R108) and the hand-overs not yet taken by each port (R110). `nextJob` is the
model's own: the name the next job takes (log entry 22). -/
structure Scheduler where
  nextJob : Nat
  jobs : List Job
  answered : List CSlot
  tagCounters : Vector Tag 6
  handovers : Vector (List Handover) 6
  deriving DecidableEq, Repr

/-! ## Notices (chapter 7) -/

/-- The kinds of notice with the fields each carries (Table 7-3). -/
inductive NoticeBody where
  | severe (record : RecRef) (version : Byte) (key : Key) (region : RegionIx) (repeated : Bool)
  | hard (record : RecRef) (version : Byte) (key : Key) (region : RegionIx)
  | verifyFailed (record : RecRef) (version : Byte) (key : Key) (region : RegionIx)
  | burst (region : RegionIx)
  | tableFull (key : Key) (region : RegionIx)
  | sOverflow (key : Key) (region : RegionIx)
  | portHalted (port : PortIx)
  | lost (count : Byte)
  | resumed (count : Byte)
  | retentionLost (count : Byte)
  deriving DecidableEq, Repr

/-- A notice in the queue (Table 7-2). -/
structure Notice where
  seq : Word
  body : NoticeBody
  stamp : Stamp
  deadline : Option Stamp
  expired : Bool
  deriving DecidableEq, Repr

/-- What the notice queue holds (R126); the head of `entries` is the head notice. -/
structure NoticeQueue where
  entries : List Notice
  nextSeq : Word
  lost : Byte
  deriving DecidableEq, Repr

/-! ## Escalation (chapter 8) -/

/-- The escalation state (R143). -/
inductive EscMode where
  | clear | fault | resetPending
  deriving DecidableEq, Repr

/-- The kinds of cause (Table 8-2). -/
inductive CauseKind where
  | deadline | sOverflow | immediate | unpostable | holdExpired
  deriving DecidableEq, Repr

/-- A cause (R144). -/
structure Cause where
  kind : CauseKind
  stamp : Stamp
  seq : Option Word
  key : Option Key
  deriving DecidableEq, Repr

/-- What the escalation unit holds (R143). -/
structure Escalation where
  mode : EscMode
  first : Option Cause
  second : Option Cause
  beforeReset : Bool
  holdDeadline : Option Stamp
  deriving DecidableEq, Repr

/-! ## The time base (chapter 3) -/

/-- The stamp counter and the prescaler: its count of input clock periods, and the divisor (less one) of the interval in
progress (R51 to R53). -/
structure TimeBase where
  stamp : Stamp
  count : Nat
  divisorInUse : Word
  deriving DecidableEq, Repr

/-! ## The host window (chapter 10) -/

/-- The command state (R165). -/
inductive CmdState where
  | idle | busy | done
  deriving DecidableEq, Repr

/-- The result codes (Table 0-4). -/
inductive Result where
  | ok | refusedState | badParam | notFound | stale | inUse | already | full | mismatch
  deriving DecidableEq, Repr

/-- The host commands (Table 11-5). -/
inductive Command where
  | enterConfig | leaveConfig | setMemory | readMemory | setRegion | readRegion | unmuteRegion
  | fetchRecord | findRecord | retireRecord | pinRecord | unpinRecord | settleRecord | clearTables
  | verifyRecord | setPort | restartPort | flushPort | readPort | ackNotice | clearFault | readReaction
  | setTiming | readTiming
  deriving DecidableEq, Repr

/-- The block that owns a pending command (Table 10-2). -/
inductive Owner where
  | engine
  | port (ix : PortIx)
  | notices
  | escalation
  | window
  deriving DecidableEq, Repr

/-- A pending command: its code and its owner (section 10.1). -/
structure PendingCommand where
  command : Command
  owner : Owner
  deriving DecidableEq, Repr

/-- The settings store (R170); the divisor is held less one, as SET_TIMING gives it (R171). -/
structure Settings where
  divisorLessOne : Word
  verifyTimeout : BitVec 12
  retryLimit : BitVec 3
  frameTimeout : BitVec 8
  ackWindow : Word
  faultHold : Word
  codeAgrees : Bool
  deriving DecidableEq, Repr

/-- What the host window holds (section 10.1). `readData` is the model's own: the word that the latest modelled read put
on D15 to D0. -/
structure Window where
  cmdState : CmdState
  result : Option Result
  code : Word
  overrun : Bool
  unseen : Bool
  command : Option PendingCommand
  noticeEnable : Bool
  commandEnable : Bool
  params : Vector Word 6
  views : Vector Word 8
  stampHold : Word
  settings : Settings
  readData : Word
  deriving DecidableEq, Repr

/-- The reset inputs, and whether a warm reset that found the part running is in progress (R155). -/
structure ResetInputs where
  porst : Bool
  wrst : Bool
  warm : Bool
  deriving DecidableEq, Repr

/-! ## The whole part -/

/-- The state of the ME24, with the queue of commands waiting, first in first out. -/
structure State where
  engine : Engine
  ports : Vector Port 6
  sched : Scheduler
  notices : NoticeQueue
  esc : Escalation
  time : TimeBase
  win : Window
  resets : ResetInputs
  pending : List Instr
  deriving DecidableEq, Repr

/-- The faults: both stand for states that R104 says the part is never in. -/
inductive Fault where
  /-- Raised by TAKE_ANSWERED_JOB where the C slot of the oldest ANSWERED job, or that job, is missing. Safe: R103 and R104
  say the record is there, so the hardware never meets it. -/
  | answeredJobWithoutRecord
  /-- Raised by VERIFY_RECORD where a SUSPECT record has no job. Safe: R104 says a SUSPECT record has one. -/
  | suspectWithoutJob
  deriving DecidableEq, Repr

/-- The refusals. -/
inductive Refusal where
  /-- Raised by exec for a command that has no meaning yet. Safe: the machine stops. No arm answers with it. -/
  | notModelled (mnemonic : String)
  deriving DecidableEq, Repr

/-! ## Values at reset -/

/-- A memory entry at power-on (Table 2-1). -/
def MemoryEntry.powerOn : MemoryEntry :=
  { owner := none, granuleSize := .g64, size := Config.maxGranules, codeAgrees := true }

/-- The range of a region entry at power-on (Table 2-4). -/
def RegionRange.powerOn : RegionRange := { enabled := false, mem := 0, base := 0, limit := 0 }

/-- The policy of a region at power-on (Table 2-4). -/
def RegionPolicy.powerOn : RegionPolicy :=
  { threshold := 3, verifyEnable := true, softLimit := 3, burstLimit := 0, decayPeriod := 100,
    severeClass := .deadline }

/-- The state fields of a region after either reset (R39). -/
def RegionCounts.atReset : RegionCounts :=
  { muted := false, burst := 0, decayDeadline := none, accepted := 0, unrecorded := 0, evictions := 0,
    mutedReports := 0 }

/-- A region at power-on (Table 2-4). -/
def Region.powerOn : Region :=
  { policy := .powerOn, counts := .atReset, codeAgrees := true }

/-- The engine at power-on (R75, R32, R50). -/
def Engine.powerOn : Engine :=
  { mode := .config, cTable := Vector.replicate 32 none, sTable := Vector.replicate 16 none,
    pinnedCount := 0, cFullArmed := true, lastServed := 5,
    memories := Vector.replicate 16 .powerOn, ranges := Vector.replicate 12 .powerOn,
    regions := Vector.replicate 13 .powerOn }

/-- A port after either reset (Table 5-4). -/
def Port.atReset : Port :=
  { mode := .down, haltOnError := false, queue := [], expected := 0, lastAccepted := none,
    reporterId := none, outstanding := none, rx := none, ignoring := none, bitTime := none, sending := none, waiting := [],
    checkErrors := 0, sequenceErrors := 0, staleVerdicts := 0, flushed := 0 }

/-- The verify scheduler after either reset (R125). -/
def Scheduler.atReset : Scheduler :=
  { nextJob := 0, jobs := [], answered := [], tagCounters := Vector.replicate 6 0,
    handovers := Vector.replicate 6 [] }

/-- The notice queue after either reset (R141). -/
def NoticeQueue.atReset : NoticeQueue := { entries := [], nextSeq := 0, lost := 0 }

/-- The escalation unit at power-on (R153). -/
def Escalation.powerOn : Escalation :=
  { mode := .clear, first := none, second := none, beforeReset := false, holdDeadline := none }

/-- The time base while PORST is asserted and at its release (R54). -/
def TimeBase.powerOn : TimeBase := { stamp := 0, count := 0, divisorInUse := Config.divisorLessOne }

/-- The settings store at power-on (Table 10-4). -/
def Settings.powerOn : Settings :=
  { divisorLessOne := Config.divisorLessOne, verifyTimeout := Config.verifyTimeout,
    retryLimit := Config.retryLimit, frameTimeout := Config.frameTimeout, ackWindow := Config.ackWindow,
    faultHold := Config.faultHold, codeAgrees := true }

/-- The window's own state after either reset, over the settings it then holds (R175). -/
def Window.atReset (settings : Settings) : Window :=
  { cmdState := .idle, result := none, code := 0, overrun := false, unseen := false, command := none,
    noticeEnable := false, commandEnable := false, params := Vector.replicate 6 0,
    views := Vector.replicate 8 0, stampHold := 0, settings := settings, readData := 0 }

/-- The part right after the release of PORST, with WRST not asserted and no command waiting. -/
def State.reset : State :=
  { engine := .powerOn, ports := Vector.replicate 6 .atReset, sched := .atReset, notices := .atReset,
    esc := .powerOn, time := .powerOn, win := .atReset .powerOn,
    resets := { porst := false, wrst := false, warm := false }, pending := [] }

end Sys2Proof.Machine
end

