-- ==== Sys2Proof/Machine/Operands.lean ====
section
/-! DEFINITION. How the host's words are read as operands and how fields are packed into the words it reads (R179, sections 11.4 and 11.5), and the codes of the fields. -/

namespace Sys2Proof.Machine

/-! ## Packing -/

/-- A field placed at a bit position of a word. -/
def fieldAt {w : Nat} (x : BitVec w) (pos : Nat) : Word := x.setWidth 16 <<< pos

/-- A flag placed at a bit position of a word. -/
def flagAt (b : Bool) (pos : Nat) : Word := fieldAt (BitVec.ofBool b) pos

/-- The low word of a number carried in two registers (R179). -/
def lowWord {w : Nat} (x : BitVec w) : Word := x.extractLsb' 0 16

/-- The high word of a number carried in two registers (R179). -/
def highWord {w : Nat} (x : BitVec w) : Word := x.extractLsb' 16 16

/-- The low byte of a word. -/
def lowByte (w : Word) : Byte := w.extractLsb' 0 8

/-- The high byte of a word. -/
def highByte (w : Word) : Byte := w.extractLsb' 8 8

/-- Two registers judged as one number, the low word in the lower-numbered one (R179). -/
def joinWords (low high : Word) : BitVec 32 := high ++ low

/-- The eight view registers of one command (R179). -/
def viewOf (a b c d e f g h : Word) : Vector Word 8 := #v[a, b, c, d, e, f, g, h]

/-! ## Codes of fields -/

/-- The kind that a kind code names; 0, 6 and 7 name none (Table 11-2, R177). -/
def kindOfCode (code : BitVec 3) : Option Kind :=
  if code = 1 then some .corr1 else if code = 2 then some .corrM else if code = 3 then some .scrub
  else if code = 4 then some .uncorr else if code = 5 then some .addrChk else none

/-- The bit of a kind in kinds seen, CORR1 at bit 0 (Table 11-6). -/
def Kind.bit : Kind → BitVec 5
  | .corr1 => 0b00001#5 | .corrM => 0b00010#5 | .scrub => 0b00100#5 | .uncorr => 0b01000#5 | .addrChk => 0b10000#5

/-- Whether a kind is of the severe class (Table 0-2). -/
def Kind.severe : Kind → Bool
  | .uncorr | .addrChk => true
  | .corr1 | .corrM | .scrub => false

/-- The bytes that one granule covers (Table 2-1). -/
def GranuleSize.bytes : GranuleSize → Nat
  | .g8 => 8 | .g16 => 16 | .g32 => 32 | .g64 => 64 | .g128 => 128 | .g256 => 256 | .g512 => 512
  | .g1024 => 1024 | .g2048 => 2048 | .g4096 => 4096

/-- The granule size that a parameter names in bytes; no other value names one (Table 2-2). -/
def granuleSizeOf (w : Word) : Option GranuleSize :=
  if w = 8 then some .g8 else if w = 16 then some .g16 else if w = 32 then some .g32
  else if w = 64 then some .g64 else if w = 128 then some .g128 else if w = 256 then some .g256
  else if w = 512 then some .g512 else if w = 1024 then some .g1024 else if w = 2048 then some .g2048
  else if w = 4096 then some .g4096 else none

/-- The code of a C-record's state (Table 11-6). -/
def CMode.code : CMode → BitVec 3
  | .counting => 0 | .suspect => 1 | .hard => 2 | .unverified => 3

/-- The code of an S-record's state (Table 11-6). -/
def SMode.code : SMode → BitVec 3
  | .opened => 4 | .settled => 5

/-- The code of a last verdict (Table 11-6). -/
def LastVerdict.code : LastVerdict → BitVec 2
  | .none => 0 | .clean => 1 | .persists => 2 | .exhausted => 3

/-- The code of a hard reason, 0 where it is absent (Table 11-6). -/
def hardReasonCode : Option HardReason → BitVec 2
  | none => 0 | some .persists => 1 | some .repeatedSoft => 2

/-- The code of a job's state (Table 11-6). -/
def JobMode.code : JobMode → BitVec 2
  | .queued _ => 1 | .inFlight _ _ _ _ => 2 | .answered _ _ _ => 3

/-- The code of a result; 0 before any (Table 11-4). -/
def resultCode : Option Result → BitVec 4
  | none => 0 | some .ok => 1 | some .refusedState => 2 | some .badParam => 3 | some .notFound => 4
  | some .stale => 5 | some .inUse => 6 | some .already => 7 | some .full => 8 | some .mismatch => 9

/-- The code of the command state (Table 11-4). -/
def CmdState.code : CmdState → BitVec 2
  | .idle => 0 | .busy => 1 | .done => 2

/-- The code of the engine state (Table 11-4). -/
def EngineMode.code : EngineMode → BitVec 1
  | .config => 0 | .run => 1

/-- The code of the escalation state (Table 11-4). -/
def EscMode.code : EscMode → BitVec 2
  | .clear => 0 | .fault => 1 | .resetPending => 2

/-- The code of a port state (Table 11-4). -/
def PortMode.code : PortMode → BitVec 2
  | .down => 0 | .listen => 1 | .ready => 2 | .halted => 3

/-- The code of a severe class (Table 11-5). -/
def SevereClass.code : SevereClass → Word
  | .notice => 0 | .deadline => 1 | .immediate => 2

/-- The severe class that a parameter names (Table 11-5). -/
def severeClassOf (w : Word) : Option SevereClass :=
  if w = 0 then some .notice else if w = 1 then some .deadline else if w = 2 then some .immediate else none

/-- The code of a cause's kind (Table 11-7). -/
def CauseKind.code : CauseKind → BitVec 3
  | .deadline => 1 | .sOverflow => 2 | .immediate => 3 | .unpostable => 4 | .holdExpired => 5

/-- The byte of a NAK reason (R178). -/
def NakReason.code : NakReason → Byte
  | .busy => 1 | .notReady => 2 | .halted => 3 | .sequence => 4 | .foreign => 5 | .range => 6

/-- The code of a notice's kind (Table 11-8). -/
def NoticeBody.code : NoticeBody → BitVec 4
  | .severe _ _ _ _ _ => 1 | .hard _ _ _ _ => 2 | .verifyFailed _ _ _ _ => 3 | .burst _ => 4
  | .tableFull _ _ => 5 | .sOverflow _ _ => 6 | .portHalted _ => 7 | .lost _ => 8 | .resumed _ => 9
  | .retentionLost _ => 10

/-- The command of a known code (Table 11-5). -/
def commandOf (code : Word) : Option Command :=
  match code.toNat with
  | 0x01 => some .enterConfig | 0x02 => some .leaveConfig | 0x03 => some .setMemory
  | 0x04 => some .readMemory | 0x05 => some .setRegion | 0x06 => some .readRegion
  | 0x07 => some .unmuteRegion | 0x08 => some .fetchRecord | 0x09 => some .findRecord
  | 0x0A => some .retireRecord | 0x0B => some .pinRecord | 0x0C => some .unpinRecord
  | 0x0D => some .settleRecord | 0x0E => some .clearTables | 0x0F => some .verifyRecord
  | 0x10 => some .setPort | 0x11 => some .restartPort | 0x12 => some .flushPort | 0x13 => some .readPort
  | 0x14 => some .ackNotice | 0x15 => some .clearFault | 0x16 => some .readReaction
  | 0x17 => some .setTiming | 0x18 => some .readTiming
  | _ => none

/-- Whether a command is a port command, routed by PARAM0 (R96, R165). -/
def Command.toPort : Command → Bool
  | .setPort | .restartPort | .flushPort | .readPort => true
  | _ => false

/-- The owner of a command whose owner is fixed by its code (Table 10-2). -/
def Command.fixedOwner : Command → Owner
  | .ackNotice => .notices
  | .clearFault | .readReaction => .escalation
  | .setTiming | .readTiming => .window
  | _ => .engine

/-- The bytes of a frame the port sends (Table 11-1, R177). -/
def OutFrame.bytes : OutFrame → List Byte
  | .welcome port expected => withCheck [0x81#8, BitVec.ofNat 8 port.val, expected]
  | .ack seq => withCheck [0x82#8, seq]
  | .nak seq reason => withCheck [0x83#8, seq, reason.code]
  | .verify tag mem addr => withCheck ([0x84#8, tag.setWidth 8, BitVec.ofNat 8 mem.val] ++ bytes32 addr)
  | .cancel tag => withCheck [0x85#8, tag.setWidth 8]

/-! ## Parameters -/

/-- A whole parameter word below a bound, as a number (R179). -/
def wordBelow (n : Nat) (w : Word) : Option (Fin n) :=
  if h : w.toNat < n then some ⟨w.toNat, h⟩ else none

/-- A byte below a bound, as a number. -/
def byteBelow (n : Nat) (b : Byte) : Option (Fin n) :=
  if h : b.toNat < n then some ⟨b.toNat, h⟩ else none

/-- The parameter word PARAMn. -/
def State.param (s : State) (n : Fin 6) : Word := s.win.params[n]

/-- The owner that PARAM1 of SET_MEMORY names: a port, or 00FFh for NONE; no other value names one (Table 11-5). -/
def ownerOf (w : Word) : Option (Option PortIx) :=
  if w = 0x00FF#16 then some none else (wordBelow 6 w).map some

/-- The record slot that a table number and a slot word name: table 0 with a slot up to 31, or table 1 with a slot up to
15 (R24). -/
def slotOf (table : Byte) (slot : Word) : Option RecRef :=
  if table = 0 then (wordBelow 32 slot).map .c
  else if table = 1 then (wordBelow 16 slot).map .s
  else none

/-- The record that PARAM0 (table, bits 7:0) and PARAM1 (slot) name (R24, R179). -/
def namedRecord (s : State) : Option RecRef := slotOf (lowByte (s.param 0)) (s.param 1)

/-- The version in PARAM2, a whole word; a value above 255 is no version (R180). -/
def versionParam (s : State) : Option Byte :=
  if (s.param 2).toNat < 256 then some (lowByte (s.param 2)) else none

/-! ## Views -/

/-- The table bit and the slot field of a record reference (Tables 11-6 and 11-8). -/
def RecRef.field : RecRef → Word
  | .c slot => fieldAt (BitVec.ofNat 5 slot.val) 8
  | .s slot => flagAt true 15 ||| fieldAt (BitVec.ofNat 5 slot.val) 8

/-- A region index as a 4-bit field, D as 12 (R179). -/
def regionField (ix : RegionIx) : BitVec 4 := BitVec.ofNat 4 ix.val

/-- A memory id as a 4-bit field. -/
def memField (m : MemId) : BitVec 4 := BitVec.ofNat 4 m.val

/-- Word V0 of both pages of FETCH_RECORD (Table 11-6). -/
def recordV0 (ref : RecRef) (core : RecordCore) : Word :=
  ref.field ||| fieldAt (regionField core.region) 4 ||| fieldAt (memField core.key.mem) 0

/-- Word V2 of page 0: the state and the high bits of the granule number (Table 11-6). -/
def recordV2 (state : BitVec 3) (core : RecordCore) : Word :=
  fieldAt state 13 ||| fieldAt (core.key.granule.extractLsb' 16 13) 0

/-- Word V6 of page 0 for a C-record and its job (Table 11-6). -/
def recordV6 (r : CRecord) (job : Option Job) : Word :=
  fieldAt r.softVerdicts 0 ||| fieldAt r.lastVerdict.code 4 ||| fieldAt (hardReasonCode r.hardReason) 6 |||
    match job with
    | none => 0
    | some j => fieldAt j.mode.code 8 ||| flagAt (j.cls = .urgent) 10 ||| fieldAt j.attempts 11

/-- Page 0 of a C-record (Table 11-6). -/
def viewCRecord (slot : CSlot) (r : CRecord) (job : Option Job) : Vector Word 8 :=
  viewOf (recordV0 (.c slot) r.core) (lowWord r.core.key.granule) (recordV2 r.mode.code r.core) r.core.hits
    (fieldAt r.core.version 0 ||| fieldAt r.core.kinds 8 ||| flagAt r.pinned 13)
    r.hitsSinceVerdict (recordV6 r job) 0

/-- Page 0 of an S-record (Table 11-6). -/
def viewSRecord (slot : SSlot) (r : SRecord) : Vector Word 8 :=
  viewOf (recordV0 (.s slot) r.core) (lowWord r.core.key.granule) (recordV2 r.mode.code r.core) r.core.hits
    (fieldAt r.core.version 0 ||| fieldAt r.core.kinds 8 ||| flagAt (r.origin = .promoted) 14)
    0 0 0

/-- An optional master id with its presence bit above it, at a bit position (Table 11-6, R179). -/
def masterAt (m : Option (BitVec 6)) (pos : Nat) : Word :=
  fieldAt (m.getD 0) pos ||| flagAt m.isSome (pos + 6)

/-- Page 1 of a record of either table (Table 11-6). -/
def viewPage1 (ref : RecRef) (core : RecordCore) : Vector Word 8 :=
  viewOf (recordV0 ref core) (lowWord core.firstStamp) (highWord core.firstStamp) (lowWord core.lastStamp)
    (highWord core.lastStamp) (masterAt core.firstMaster 0 ||| masterAt core.lastMaster 8)
    (core.syndrome.getD 0) (flagAt core.syndrome.isSome 0 ||| fieldAt core.version 8)

/-- The view of FIND_RECORD (Table 11-7). -/
def viewFound (ref : RecRef) (core : RecordCore) : Vector Word 8 :=
  viewOf ref.field (fieldAt core.version 0) 0 0 0 0 0 0

/-- The owner byte of the READ_MEMORY view: a port, or FFh for NONE (Table 11-7). -/
def ownerByte : Option PortIx → Byte
  | none => 0xFF#8
  | some p => BitVec.ofNat 8 p.val

/-- The view of READ_MEMORY (Table 11-7). -/
def viewMemory (m : MemId) (e : MemoryEntry) (cCount sCount : Nat) : Vector Word 8 :=
  viewOf (fieldAt (memField m) 0 ||| fieldAt (ownerByte e.owner) 8) (BitVec.ofNat 16 e.granuleSize.bytes)
    (lowWord (BitVec.ofNat 32 e.size)) (highWord (BitVec.ofNat 32 e.size)) (BitVec.ofNat 16 cCount)
    (BitVec.ofNat 16 sCount) 0 0

/-- The view of READ_REGION, part RANGE (Table 11-7). -/
def viewRange (r : RegionRange) : Vector Word 8 :=
  viewOf (flagAt r.enabled 0 ||| fieldAt (memField r.mem) 8) (lowWord r.base) (highWord r.base)
    (lowWord r.limit) (highWord r.limit) 0 0 0

/-- The view of READ_REGION, part POLICY (Table 11-7). -/
def viewPolicy (r : Region) : Vector Word 8 :=
  viewOf (fieldAt r.policy.threshold 0 ||| fieldAt r.policy.softLimit 8 ||| flagAt r.policy.verifyEnable 15)
    (fieldAt r.policy.burstLimit 0) r.policy.decayPeriod r.policy.severeClass.code (flagAt r.counts.muted 0)
    (fieldAt r.counts.burst 0) 0 0

/-- The view of READ_REGION, part COUNTERS (Table 11-7). -/
def viewCounters (r : Region) : Vector Word 8 :=
  viewOf r.counts.accepted r.counts.unrecorded r.counts.evictions r.counts.mutedReports 0 0 0 0

/-- The view of READ_PORT (Table 11-7). -/
def viewPort (p : Port) : Vector Word 8 :=
  viewOf
    (fieldAt p.mode.code 0 ||| flagAt p.haltOnError 2 ||| fieldAt (BitVec.ofNat 3 p.queue.length) 4)
    (fieldAt p.expected 0 ||| fieldAt (p.lastAccepted.getD 0) 8)
    (flagAt p.lastAccepted.isSome 0 ||| flagAt p.reporterId.isSome 1 ||| flagAt p.outstanding.isSome 2 |||
      fieldAt (p.outstanding.getD 0) 8)
    (p.reporterId.getD 0) (fieldAt p.checkErrors 0 ||| fieldAt p.sequenceErrors 8)
    (fieldAt p.staleVerdicts 0 ||| fieldAt p.flushed 8) 0 0

/-- The fields of the escalation unit that READ_REACTION shows whatever the cause named (Table 11-7). -/
def reactionV0 (e : Escalation) : Word :=
  fieldAt e.mode.code 0 ||| flagAt e.beforeReset 2 ||| flagAt e.first.isSome 3 ||| flagAt e.second.isSome 4

/-- The view of READ_REACTION for the cause named (Table 11-7); an absent cause reads as 0 (R152). -/
def viewReaction (e : Escalation) : Option Cause → Vector Word 8
  | none => viewOf (reactionV0 e) 0 0 0 0 0 0 0
  | some c =>
    viewOf
      (reactionV0 e ||| fieldAt c.kind.code 8 ||| flagAt c.seq.isSome 11 ||| flagAt c.key.isSome 12)
      (lowWord c.stamp) (highWord c.stamp) (c.seq.getD 0)
      (match c.key with | none => 0 | some k => fieldAt (memField k.mem) 0)
      (match c.key with | none => 0 | some k => lowWord k.granule)
      (match c.key with | none => 0 | some k => highWord k.granule) 0

/-- The view of READ_TIMING (Table 11-7). -/
def viewTiming (t : Settings) : Vector Word 8 :=
  viewOf t.divisorLessOne (fieldAt t.verifyTimeout 0) (fieldAt t.retryLimit 0) (fieldAt t.frameTimeout 0)
    t.ackWindow t.faultHold 0 0

end Sys2Proof.Machine
end

