-- ==== Sys2Proof/Machine/Ops.lean ====
section
/-! DEFINITION. The operations that the commands share: updates of State, saturating counts and deadlines, records and slots, jobs and hand-overs, notices and causes, ports and their frames, and the completion of a host command. -/

namespace Sys2Proof.Machine

/-! ## Updates of the parts of State -/

def State.setEngine (s : State) (e : Engine) : State := { s with engine := e }
def State.setPorts (s : State) (p : Vector Port 6) : State := { s with ports := p }
def State.setSched (s : State) (c : Scheduler) : State := { s with sched := c }
def State.setNotices (s : State) (n : NoticeQueue) : State := { s with notices := n }
def State.setEsc (s : State) (e : Escalation) : State := { s with esc := e }
def State.setTime (s : State) (t : TimeBase) : State := { s with time := t }
def State.setWin (s : State) (w : Window) : State := { s with win := w }
def State.setResets (s : State) (r : ResetInputs) : State := { s with resets := r }

/-- One port replaced. -/
def State.setPort (s : State) (ix : PortIx) (p : Port) : State := s.setPorts (s.ports.set ix.val p)

/-- One region replaced. -/
def State.setRegion (s : State) (ix : RegionIx) (r : Region) : State :=
  s.setEngine { s.engine with regions := s.engine.regions.set ix.val r }

/-- The state fields of one region replaced; its integrity code does not cover them (R38). -/
def State.setCounts (s : State) (ix : RegionIx) (c : RegionCounts) : State :=
  s.setRegion ix { s.engine.regions[ix] with counts := c }

/-- The jobs of the verify queue replaced. -/
def State.setJobs (s : State) (jobs : List Job) : State := s.setSched { s.sched with jobs := jobs }

/-! ## Counts, stamps and deadlines -/

/-- A saturating count raised by one ("Numbers" of the introduction). -/
def satInc {w : Nat} (x : BitVec w) : BitVec w := if x = BitVec.allOnes w then x else x + 1

/-- A saturating count raised by a number. -/
def satAdd {w : Nat} (x : BitVec w) (n : Nat) : BitVec w :=
  if x.toNat + n < 2 ^ w then BitVec.ofNat w (x.toNat + n) else BitVec.allOnes w

/-- A deadline is reached when the stamp less the deadline, modulo 2^32, is below 2^31 (R56). -/
def reached (stamp deadline : Stamp) : Bool := (stamp - deadline).toNat < 2147483648

/-- An optional deadline that is present and reached. -/
def reachedOpt (stamp : Stamp) (deadline : Option Stamp) : Bool := deadline.any (reached stamp)

/-- A deadline armed at a stamp for a period (R56). -/
def armed {w : Nat} (stamp : Stamp) (period : BitVec w) : Stamp := stamp + BitVec.ofNat 32 period.toNat

/-- The age of a record: the stamp less its last stamp, modulo 2^32 (R58). -/
def age (stamp last : Stamp) : Nat := (stamp - last).toNat

/-! ## Reset inputs -/

/-- The part is held while either reset input is asserted (R54, R155). -/
def State.held (s : State) : Bool := s.resets.porst || s.resets.wrst

/-- A happening of a block that either reset input holds: it changes nothing while the part is held (R102, R125, R141,
R143, R155). -/
def whenRunning (f : State → State) (s : State) : State := if s.held then s else f s

/-! ## Memories, keys and regions -/

/-- The granule number of a byte address in a memory (R1). -/
def granuleOf (e : MemoryEntry) (addr : BitVec 32) : Granule :=
  BitVec.ofNat 29 (addr.toNat / e.granuleSize.bytes)

/-- The byte address of a granule's first byte (R1). -/
def granuleAddr (e : MemoryEntry) (g : Granule) : BitVec 32 :=
  BitVec.ofNat 32 (g.toNat * e.granuleSize.bytes)

/-- Whether a byte address lies within a memory's size (R34). -/
def inMemory (e : MemoryEntry) (addr : BitVec 32) : Bool := (granuleOf e addr).toNat < e.size

/-- The key of a byte address in a memory, with the granule size the memory then holds (R1). -/
def State.keyOf (s : State) (m : MemId) (addr : BitVec 32) : Key :=
  { mem := m, granule := granuleOf s.engine.memories[m] addr }

/-- The default region D (R38). -/
def regionD : RegionIx := 12

/-- Whether an enabled region entry covers a key (R40). -/
def covers (r : RegionRange) (k : Key) : Bool :=
  r.enabled && r.mem == k.mem && r.base ≤ k.granule && k.granule ≤ r.limit

/-- Region lookup: the lowest-numbered enabled entry that covers the key, or D (R40). -/
def State.lookupRegion (s : State) (k : Key) : RegionIx :=
  match (List.finRange 12).find? (fun i => covers s.engine.ranges[i] k) with
  | some i => i.castSucc
  | none => regionD

/-- The policy of a region as its entry stands (R41). -/
def State.policy (s : State) (ix : RegionIx) : RegionPolicy := s.engine.regions[ix].policy

/-- A region's unrecorded counter raised by one (R42). -/
def countUnrecorded (ix : RegionIx) (s : State) : State :=
  let c := s.engine.regions[ix].counts
  s.setCounts ix { c with unrecorded := satInc c.unrecorded }

/-! ## Record tables -/

/-- The C-record that holds a key, with its slot (R2). -/
def State.findC (s : State) (k : Key) : Option (CSlot × CRecord) :=
  (List.finRange 32).findSome? fun i =>
    match s.engine.cTable[i] with
    | some r => if r.core.key = k then some (i, r) else none
    | none => none

/-- The S-record that holds a key, with its slot (R2). -/
def State.findS (s : State) (k : Key) : Option (SSlot × SRecord) :=
  (List.finRange 16).findSome? fun i =>
    match s.engine.sTable[i] with
    | some r => if r.core.key = k then some (i, r) else none
    | none => none

/-- The lowest-numbered free C slot (R2). -/
def State.freeC (s : State) : Option CSlot :=
  (List.finRange 32).find? fun i => s.engine.cTable[i].isNone

/-- The lowest-numbered free S slot (R2). -/
def State.freeS (s : State) : Option SSlot :=
  (List.finRange 16).find? fun i => s.engine.sTable[i].isNone

/-- A record's core with its integrity code rewritten (R8). -/
def RecordCore.recoded (c : RecordCore) : RecordCore := { c with codeAgrees := true }

/-- A C-record written into a slot; the engine rewrites its integrity code (R8). -/
def State.putC (s : State) (slot : CSlot) (r : CRecord) : State :=
  s.setEngine
    { s.engine with cTable := s.engine.cTable.set slot.val (some { r with core := r.core.recoded }) }

/-- An S-record written into a slot; the engine rewrites its integrity code (R8). -/
def State.putS (s : State) (slot : SSlot) (r : SRecord) : State :=
  s.setEngine
    { s.engine with sTable := s.engine.sTable.set slot.val (some { r with core := r.core.recoded }) }

/-- A slot of the S-table made free (R2). -/
def State.dropS (s : State) (slot : SSlot) : State :=
  s.setEngine { s.engine with sTable := s.engine.sTable.set slot.val none }

/-- The master fields after a report that carries, or does not carry, a master id (R5). -/
def RecordCore.withMaster (c : RecordCore) (m : Option (BitVec 6)) : RecordCore :=
  match m with
  | none => c
  | some id => { c with firstMaster := some (c.firstMaster.getD id), lastMaster := some id }

/-- The report update without the version's advance: hits, kinds seen, last stamp, masters and syndrome (R11, R5). -/
def RecordCore.applied (c : RecordCore) (r : Report) (stamp : Stamp) : RecordCore :=
  { c.withMaster r.master with
    hits := satInc c.hits
    kinds := c.kinds ||| r.kind.bit
    lastStamp := stamp
    syndrome := r.syndrome.or c.syndrome }

/-- A record's version advanced by one, rolling (R6). -/
def RecordCore.advanced (c : RecordCore) : RecordCore := { c with version := c.version + 1 }

/-- The report update of a record of either table (R11). -/
def RecordCore.updated (c : RecordCore) (r : Report) (stamp : Stamp) : RecordCore :=
  (c.applied r stamp).advanced

/-- The common fields of a record created by a report (R15, R22). -/
def RecordCore.ofReport (k : Key) (region : RegionIx) (r : Report) (stamp : Stamp) : RecordCore :=
  { key := k, region := region, hits := 1, kinds := r.kind.bit, firstStamp := stamp, lastStamp := stamp,
    firstMaster := r.master, lastMaster := r.master, syndrome := r.syndrome, version := 0, codeAgrees := true }

/-- The C-records of the table, in slot order. -/
def Engine.cRecords (e : Engine) : List CRecord := e.cTable.toList.filterMap id

/-- The S-records of the table, in slot order. -/
def Engine.sRecords (e : Engine) : List SRecord := e.sTable.toList.filterMap id

/-! ## Verify jobs and hand-overs -/

/-- Whether a job is URGENT. -/
def Job.urgent (j : Job) : Bool := j.cls == .urgent

/-- A job placed behind the URGENT jobs and ahead of the NORMAL ones. -/
def betweenClasses (j : Job) (q : List Job) : List Job :=
  q.takeWhile Job.urgent ++ j :: q.dropWhile Job.urgent

/-- A job placed at the tail of its class (R105). -/
def insertTail (j : Job) (q : List Job) : List Job :=
  match j.cls with
  | .urgent => betweenClasses j q
  | .normal => q ++ [j]

/-- A job placed at the head of its class (R105). -/
def insertHead (j : Job) (q : List Job) : List Job :=
  match j.cls with
  | .urgent => j :: q
  | .normal => betweenClasses j q

/-- The job for the record in a C slot (R104). -/
def jobFor (slot : CSlot) (q : List Job) : Option Job := q.find? fun j => j.slot == slot

/-- The queue without the job for a C slot. -/
def withoutJob (slot : CSlot) (q : List Job) : List Job := q.filter fun j => j.slot != slot

/-- A job changed in its place. -/
def replaceJob (j : Job) (q : List Job) : List Job := q.map fun k => if k.slot = j.slot then j else k

/-- Whether a job is IN_FLIGHT on a port with a tag (R110). -/
def Job.inFlightOn (port : PortIx) (tag : Tag) (j : Job) : Bool :=
  match j.mode with
  | .inFlight p t _ _ => p == port && t == tag
  | _ => false

/-- Whether a job is the one a dispatch names, QUEUED and offered to the port with the tag (R109, R110). -/
def Job.offeredAs (id : Nat) (port : PortIx) (tag : Tag) (j : Job) : Bool :=
  j.id == id && j.mode == .queued (some (port, tag))

/-- Whether a job is QUEUED and offered to a port. -/
def Job.offeredTo (port : PortIx) (j : Job) : Bool :=
  match j.mode with
  | .queued (some (p, _)) => p == port
  | _ => false

/-- Whether a job is IN_FLIGHT on a port. -/
def Job.flyingOn (port : PortIx) (j : Job) : Bool :=
  match j.mode with
  | .inFlight p _ _ _ => p == port
  | _ => false

/-- Whether a job is IN_FLIGHT on a port with no cancel requested. -/
def Job.uncancelledOn (port : PortIx) (j : Job) : Bool :=
  match j.mode with
  | .inFlight p _ _ none => p == port
  | _ => false

/-- Whether a job is QUEUED with no offer. -/
def Job.waiting (j : Job) : Bool := j.mode == .queued none

/-- A new job for a C-record: QUEUED, attempts 0 (R106, R122). -/
def Job.new (id : Nat) (slot : CSlot) (key : Key) (cls : JobClass) : Job :=
  { id := id, slot := slot, key := key, cls := cls, attempts := 0, mode := .queued none }

/-- Whether a hand-over is a dispatch (R110). -/
def Handover.isDispatch : Handover → Bool
  | .dispatch _ _ _ _ => true
  | .cancel _ => false

/-- A hand-over placed behind those already handed to a port (R110). -/
def handOver (port : PortIx) (h : Handover) (s : State) : State :=
  s.setSched
    { s.sched with handovers := s.sched.handovers.set port.val (s.sched.handovers[port] ++ [h]) }

/-- A job made ANSWERED in its place: it joins the end of the order of ANSWERED jobs and keeps its port and tag (R111,
R113). -/
def answerJob (j : Job) (port : PortIx) (tag : Tag) (a : Answer) (s : State) : State :=
  s.setSched
    { s.sched with
      jobs := replaceJob { j with mode := .answered port tag a } s.sched.jobs
      answered := s.sched.answered ++ [j.slot] }

/-- A job sent back to QUEUED at the head of its class, attempts unchanged (R116, R113). -/
def returnToHead (j : Job) (s : State) : State :=
  s.setJobs (insertHead { j with mode := .queued none } (withoutJob j.slot s.sched.jobs))

/-- The return notification of a port: the job IN_FLIGHT there with the tag goes back to the head of its class; where no
job matches, nothing changes (R116, R110). -/
def returnJob (port : PortIx) (tag : Tag) (s : State) : State :=
  match s.sched.jobs.find? (Job.inFlightOn port tag) with
  | some j => returnToHead j s
  | none => s

/-- A job taken out of the verify queue, and out of the order of ANSWERED jobs (R104). -/
def removeJob (slot : CSlot) (s : State) : State :=
  s.setSched
    { s.sched with
      jobs := withoutJob slot s.sched.jobs
      answered := s.sched.answered.filter fun k => k != slot }

/-- The cancel request that the withdrawal of a job hands its port, where it hands one (R121). -/
def withdrawalHandover (m : JobMode) (s : State) : State :=
  match m with
  | .queued (some (port, tag)) => handOver port (.cancel tag) s
  | .inFlight port tag _ none => handOver port (.cancel tag) s
  | .queued none | .inFlight _ _ _ (some _) | .answered _ _ _ => s

/-- The withdrawal of the job for a record, whatever its state (R121). -/
def withdraw (slot : CSlot) (s : State) : State :=
  match jobFor slot s.sched.jobs with
  | some j => withdrawalHandover j.mode (removeJob slot s)
  | none => s

/-- The entry of a job at the tail of its class, under a name of its own; the record becomes SUSPECT in the same item
(R106, R122, R14). -/
def enterJob (slot : CSlot) (r : CRecord) (cls : JobClass) (s : State) : State :=
  (s.putC slot { r with mode := .suspect }).setSched
    { s.sched with
      nextJob := s.sched.nextJob + 1
      jobs := insertTail (.new s.sched.nextJob slot r.core.key cls) s.sched.jobs }

/-- Whether the verify queue has room (R104). -/
def State.queueRoom (s : State) : Bool := s.sched.jobs.length < Config.verifyQueueDepth

/-- A C-record taken out of its slot: the slot is free, the C-full notice flag is re-armed, the pinned count falls if it
was pinned, and its job is withdrawn (R18, R27, R20). -/
def removeC (slot : CSlot) (r : CRecord) (s : State) : State :=
  withdraw slot
    (s.setEngine
      { s.engine with
        cTable := s.engine.cTable.set slot.val none
        pinnedCount := s.engine.pinnedCount - r.pinned.toNat
        cFullArmed := true })

/-! ## Causes and notices -/

/-- The fault hold deadline armed on entry to FAULT; none where the hold time is 0 (R145). -/
def holdDeadlineAt (stamp : Stamp) (hold : Word) : Option Stamp :=
  if hold = 0 then none else some (armed stamp hold)

/-- The escalation unit takes a cause (R145, R146, R147). -/
def takeCause (kind : CauseKind) (seq : Option Word) (key : Option Key) (s : State) : State :=
  let cause : Cause := { kind := kind, stamp := s.time.stamp, seq := seq, key := key }
  match s.esc.mode with
  | .clear =>
    s.setEsc
      { mode := .fault, first := some cause, second := none, beforeReset := false,
        holdDeadline := holdDeadlineAt s.time.stamp s.win.settings.faultHold }
  | .fault =>
    s.setEsc { s.esc with mode := .resetPending, second := some cause, holdDeadline := none }
  | .resetPending => s

/-- The key copy a notice carries (Table 7-3). -/
def NoticeBody.key : NoticeBody → Option Key
  | .severe _ _ k _ _ | .hard _ _ k _ | .verifyFailed _ _ k _ | .tableFull k _ | .sOverflow k _ => some k
  | .burst _ | .portHalted _ | .lost _ | .resumed _ | .retentionLost _ => none

/-- The region a notice carries (Table 7-3). -/
def NoticeBody.region : NoticeBody → Option RegionIx
  | .severe _ _ _ r _ | .hard _ _ _ r | .verifyFailed _ _ _ r | .burst r | .tableFull _ r
  | .sOverflow _ r => some r
  | .portHalted _ | .lost _ | .resumed _ | .retentionLost _ => none

/-- Whether the notice queue has room (R128). -/
def State.noticeRoom (s : State) : Bool := s.notices.entries.length < Config.noticeQueueDepth

/-- The notice that enters: the next sequence number, the present stamp, and, where it carries a deadline, the
acknowledge window armed (R128, R129). -/
def noticeAt (s : State) (body : NoticeBody) (dated : Bool) : Notice :=
  { seq := s.notices.nextSeq, body := body, stamp := s.time.stamp,
    deadline := if dated then some (armed s.time.stamp s.win.settings.ackWindow) else none,
    expired := false }

/-- A notice enters at the tail (R128). -/
def enterNotice (body : NoticeBody) (dated : Bool) (s : State) : State :=
  s.setNotices
    { s.notices with
      entries := s.notices.entries ++ [noticeAt s body dated]
      nextSeq := s.notices.nextSeq + 1 }

/-- A notice is lost and counted (R131). -/
def loseNotice (s : State) : State :=
  s.setNotices { s.notices with lost := satInc s.notices.lost }

/-- The posting of a notice: it enters, or, with 16 notices queued, is lost; a lost notice that carries a deadline hands
an UNPOSTABLE cause (R128, R131, R132). -/
def post (body : NoticeBody) (dated : Bool) (s : State) : State :=
  if s.noticeRoom then enterNotice body dated s
  else if dated then takeCause .unpostable none body.key (loseNotice s)
  else loseNotice s

/-- What the queue answers the poster: the sequence number the notice takes, or none where it is lost (R128, R131). -/
def postedSeq (s : State) : Option Word := if s.noticeRoom then some s.notices.nextSeq else none

/-- A SEVERE notice posted under the severe class of the record's region (R23). -/
def postSevere (ref : RecRef) (core : RecordCore) (repeated : Bool) (s : State) : State :=
  let body := NoticeBody.severe ref core.version core.key core.region repeated
  match (s.policy core.region).severeClass with
  | .notice => post body false s
  | .deadline => post body true s
  | .immediate => takeCause .immediate (postedSeq s) (some core.key) (post body false s)

/-! ## Ports -/

/-- A frame produced by a port: it begins at once where none is being sent, at the bit time the port then holds, and
otherwise waits behind those produced before it (R83, R176). -/
def Port.produce (f : OutFrame) (p : Port) : Port :=
  match p.sending with
  | none => { p with sending := some { frame := f, bitTime := p.bitTime } }
  | some _ => { p with waiting := p.waiting ++ [f] }

/-- The request in flight of a port ends without a CANCEL frame: its tag is cleared and its job returned (R95). -/
def endRequest (ix : PortIx) (s : State) : State :=
  match s.ports[ix].outstanding with
  | none => s
  | some tag => returnJob ix tag (s.setPort ix { s.ports[ix] with outstanding := none })

/-- A port enters HALTED: the request in flight ends and a PORT_HALTED notice is posted (R81). -/
def haltPort (ix : PortIx) (s : State) : State :=
  post (.portHalted ix) false
    (endRequest ix (s.setPort ix { s.ports[ix] with mode := .halted }))

/-- Whether a bad or truncated frame halts the port (R81). -/
def Port.haltsOnBad (p : Port) : Bool := p.haltOnError && (p.mode == .listen || p.mode == .ready)

/-- A bad or truncated frame is discarded and counted, and halts the port if halt-on-error is set (R81). -/
def discardFrame (ix : PortIx) (s : State) : State :=
  let p := s.ports[ix]
  let s' := s.setPort ix { p with rx := none, checkErrors := satInc p.checkErrors }
  if p.haltsOnBad then haltPort ix s' else s'

/-- The frame under reception ends as complete: its deadline becomes absent (R80). -/
def endReception (ix : PortIx) (s : State) : State := s.setPort ix { s.ports[ix] with rx := none }

/-- A port's queue emptied into its flushed counter (R89). -/
def Port.flush (p : Port) : Port := { p with queue := [], flushed := satAdd p.flushed p.queue.length }

/-! ## Completion of a host command -/

/-- The completion of the pending command, in the happening that carries it out: result, DONE, completion unseen, and
the views where the command writes them (R167). -/
def complete (r : Result) (views : Option (Vector Word 8)) (s : State) : State :=
  s.setWin
    { s.win with
      result := some r, cmdState := .done, unseen := true, command := none
      views := views.getD s.win.views }

/-- Whether a command is pending with its owner (R165). -/
def State.isPending (s : State) (c : Command) (o : Owner) : Bool := s.win.command == some ⟨c, o⟩

/-- The engine takes a command where it is pending and the part is not held (R63, R69, R77). -/
def takeByOwner (c : Command) (o : Owner) (body : State → State) (s : State) : State :=
  whenRunning (fun s => if s.isPending c o then body s else s) s

/-- A port takes a command where it is pending with that port (R96, R168). -/
def takeByPort (c : Command) (body : PortIx → State → State) (s : State) : State :=
  whenRunning
    (fun s =>
      match s.win.command with
      | some ⟨c', .port ix⟩ => if c' = c then body ix s else s
      | _ => s) s

/-- Whether an engine command is pending (R63, R69). -/
def State.engineCommandPending (s : State) : Bool :=
  match s.win.command with
  | some ⟨_, .engine⟩ => true
  | _ => false

/-! ## Ticks -/

/-- A tick: the stamp advances by one and the next interval takes the divisor the settings store then holds (R51, R53).
Only PORST holds the time base (R52, R54); while WRST is held that divisor is the one no disturbance has altered (log
entry 6). -/
def tickOnce (s : State) : State :=
  if s.resets.porst then s
  else s.setTime
    { stamp := s.time.stamp + 1, count := 0, divisorInUse := s.win.settings.divisorLessOne }

/-- One period of the input clock: the prescaler's count rises by one, and where it would reach the divisor of the
interval a tick occurs (R52). -/
def clockPeriod (s : State) : State :=
  if s.resets.porst then s
  else if s.time.count < s.time.divisorInUse.toNat then
    s.setTime { s.time with count := s.time.count + 1 }
  else tickOnce s

end Sys2Proof.Machine
end

