-- ==== Sys2Proof/Machine/Flags.lean ====
section
/-! DEFINITION. What the part shows: its output lines INT, FAULT and RESET_REQ, its outbound lanes, the status words, the notice window, and every register of the host window as a read shows it (R140, R149, R163, R174, R176, Tables 11-3, 11-4 and 11-8). -/

namespace Sys2Proof.Machine

/-- The notices-waiting indication (R140). -/
def State.noticesWaiting (s : State) : Bool := !s.notices.entries.isEmpty

/-- INT is asserted, low, exactly while an enabled source holds it (R174). -/
def State.intAsserted (s : State) : Bool :=
  (s.win.noticeEnable && s.noticesWaiting) || (s.win.commandEnable && s.win.unseen)

/-- FAULT is asserted exactly in FAULT and RESET_PENDING (R149). -/
def State.faultAsserted (s : State) : Bool := s.esc.mode == .fault || s.esc.mode == .resetPending

/-- RESET_REQ is asserted exactly in RESET_PENDING (R149). -/
def State.resetReqAsserted (s : State) : Bool := s.esc.mode == .resetPending

/-- Whether a notice with its expired flag set is in the queue (R139, R150). -/
def State.expiredQueued (s : State) : Bool := s.notices.entries.any fun n => n.expired

/-- The outbound lane of a port is held high: while either reset input is asserted, and while no frame is being sent, in
DOWN once a frame that was being sent has been completed (R83, R176). -/
def State.txHeldHigh (s : State) (ix : PortIx) : Bool := s.held || s.ports[ix].sending.isNone

/-- What a port's outbound lane carries for the frame being sent, one bit for each of the frame's bit times: its
delimiter, `extra` bit times high more than the one required, and its bytes; nothing while the lane is held high (R83,
R176). -/
def State.txBits (s : State) (ix : PortIx) (extra : Nat) : List Bool :=
  if s.held then []
  else
    match s.ports[ix].sending with
    | none => []
    | some g => frameBits extra g.frame.bytes

/-- The outbound lane for frames sent one after another, each at its own count of bit times high after the delimiter and
with at least 2 bit times high behind it; both counts are the sender's, beyond what is required (R176). -/
def txSequence : List (OutFrame × Nat × Nat) → List Bool
  | [] => []
  | (f, extra, gap) :: rest => frameBits extra f.bytes ++ List.replicate (2 + gap) true ++ txSequence rest

/-- STATUS0 (Table 11-4). -/
def status0 (s : State) : Word :=
  fieldAt s.win.cmdState.code 0 ||| flagAt s.win.overrun 2 ||| flagAt s.win.unseen 3 |||
    fieldAt (resultCode s.win.result) 4 ||| fieldAt s.engine.mode.code 8 ||| fieldAt s.esc.mode.code 9

/-- STATUS1 (Table 11-4). -/
def status1 (s : State) : Word :=
  fieldAt (BitVec.ofNat 5 s.notices.entries.length) 0 ||| fieldAt s.notices.lost 8

/-- CONTROL as read: the two enables; the seen bit reads 0 (R174). -/
def controlWord (s : State) : Word := flagAt s.win.noticeEnable 0 ||| flagAt s.win.commandEnable 1

/-- PORT_SUMMARY: port n's state in bits 2n+1:2n (Table 11-4). -/
def portSummary (s : State) : Word :=
  fieldAt s.ports[0].mode.code 0 ||| fieldAt s.ports[1].mode.code 2 ||| fieldAt s.ports[2].mode.code 4 |||
    fieldAt s.ports[3].mode.code 6 ||| fieldAt s.ports[4].mode.code 8 ||| fieldAt s.ports[5].mode.code 10

/-- The record a notice carries (Table 7-3). -/
def NoticeBody.record : NoticeBody → Option (RecRef × Byte)
  | .severe r v _ _ _ | .hard r v _ _ | .verifyFailed r v _ _ => some (r, v)
  | _ => none

/-- The repeat flag a notice carries (Table 7-2). -/
def NoticeBody.repeated : NoticeBody → Bool
  | .severe _ _ _ _ b => b
  | _ => false

/-- NOTICE1 (Table 11-8). -/
def notice1 (n : Notice) : Word :=
  fieldAt n.body.code 0 ||| flagAt n.expired 4 ||| flagAt n.body.repeated 5 ||| flagAt n.deadline.isSome 6 |||
    match n.body.record with
    | none => 0
    | some (_, v) => flagAt true 7 ||| fieldAt v 8

/-- NOTICE2 (Table 11-8). -/
def notice2 (n : Notice) : Word :=
  (match n.body.record with | none => 0 | some (r, _) => r.field) |||
    (match n.body.region with | none => 0 | some ix => fieldAt (regionField ix) 4) |||
    (match n.body.key with | none => 0 | some k => fieldAt (memField k.mem) 0)

/-- NOTICE3: the granule number's low word, the port, or the count (Table 11-8). -/
def notice3 (n : Notice) : Word :=
  match n.body with
  | .portHalted p => BitVec.ofNat 16 p.val
  | .lost c | .resumed c | .retentionLost c => fieldAt c 0
  | b => match b.key with | none => 0 | some k => lowWord k.granule

/-- NOTICE4: the granule number's high bits (Table 11-8). -/
def notice4 (n : Notice) : Word :=
  match n.body.key with | none => 0 | some k => highWord k.granule

/-- The notice window: the head notice, or kind NONE and every field 0 (R133). -/
def noticeWindow (s : State) : Vector Word 6 :=
  match s.notices.entries with
  | [] => #v[0, 0, 0, 0, 0, 0]
  | n :: _ => #v[n.seq, notice1 n, notice2 n, notice3 n, notice4 n, lowWord n.stamp]

/-- The value a read of a word address shows (R163, Table 11-3); 0 while either reset input is asserted (R155). -/
def readRegister (addr : BitVec 5) (s : State) : Word :=
  if s.held then 0
  else
    match addr.toNat with
    | 0x00 => Config.idWord
    | 0x01 => status0 s
    | 0x02 => status1 s
    | 0x03 => controlWord s
    | 0x04 => s.win.code
    | 0x19 => portSummary s
    | 0x1A => lowWord s.time.stamp
    | 0x1B => s.win.stampHold
    | n =>
      if h : 5 ≤ n ∧ n < 11 then s.win.params[n - 5]
      else if h : 11 ≤ n ∧ n < 19 then s.win.views[n - 11]
      else if h : 19 ≤ n ∧ n < 25 then (noticeWindow s)[n - 19]
      else 0

end Sys2Proof.Machine
end

