-- ==== Sys2Proof/Machine/Notices.lean ====
section
/-! DEFINITION. The notice queue's ACK_NOTICE and notice deadlines, and the escalation unit's fault hold deadline, CLEAR_FAULT and READ_REACTION (chapters 7 and 8). -/

namespace Sys2Proof.Machine

/-- The LOST notice that the acknowledgement posts while the lost count is above 0; the count returns to 0 (R135). -/
def postLost (s : State) : State :=
  if s.notices.lost = 0 then s
  else enterNotice (.lost s.notices.lost) false (s.setNotices { s.notices with lost := 0 })

/-- ACK_NOTICE carried out by the notice queue (R134, R135). -/
def ackNotice (s : State) : State :=
  match s.notices.entries with
  | [] => complete .notFound none s
  | n :: rest =>
    if s.param 0 = n.seq then
      complete .ok none (postLost (s.setNotices { s.notices with entries := rest }))
    else complete .mismatch none s

/-- ACK_NOTICE (R134). -/
def execAckNotice (s : State) : Host.Outcome State Fault Refusal :=
  .next (takeByOwner .ackNotice .notices ackNotice s)

/-- A notice whose deadline has been reached: expired flag set, deadline absent (R137). -/
def Notice.expire (n : Notice) : Notice := { n with expired := true, deadline := none }

/-- The queue with one notice, named by its sequence number, expired (R137). -/
def expireNotice (seq : Word) (s : State) : State :=
  s.setNotices
    { s.notices with
      entries := s.notices.entries.map fun n => if n.seq = seq then n.expire else n }

/-- The reach of a notice's deadline: the notice expires and a DEADLINE cause is handed with its sequence number and key
copy (R137). -/
def reachNotice (seq : Word) (s : State) : State :=
  match s.notices.entries.find? (fun n => n.seq == seq) with
  | some n =>
    if reachedOpt s.time.stamp n.deadline then
      takeCause .deadline (some seq) n.body.key (expireNotice seq s)
    else s
  | none => s

/-- NOTICE_DEADLINE (R137). -/
def execNoticeDeadline (seq : Word) (s : State) : Host.Outcome State Fault Refusal :=
  .next (whenRunning (reachNotice seq) s)

/-- The reach of the fault hold deadline: a HOLD_EXPIRED cause taken in FAULT (R148). -/
def reachHold (s : State) : State :=
  if s.esc.mode == .fault && reachedOpt s.time.stamp s.esc.holdDeadline then
    takeCause .holdExpired none none s
  else s

/-- FAULT_HOLD_EXPIRY (R148). -/
def execFaultHoldExpiry (s : State) : Host.Outcome State Fault Refusal := .next (whenRunning reachHold s)

/-- CLEAR_FAULT carried out by the escalation unit (R150). -/
def clearFault (s : State) : State :=
  match s.esc.mode with
  | .clear => complete .already none s
  | .resetPending => complete .refusedState none s
  | .fault =>
    if s.expiredQueued then complete .refusedState none s
    else complete .ok none (s.setEsc { s.esc with mode := .clear, holdDeadline := none })

/-- CLEAR_FAULT (R150). -/
def execClearFault (s : State) : Host.Outcome State Fault Refusal :=
  .next (takeByOwner .clearFault .escalation clearFault s)

/-- READ_REACTION carried out by the escalation unit (R152). -/
def readReaction (s : State) : State :=
  if s.param 0 = 0 then complete .ok (some (viewReaction s.esc s.esc.first)) s
  else if s.param 0 = 1 then complete .ok (some (viewReaction s.esc s.esc.second)) s
  else complete .badParam none s

/-- READ_REACTION (R152). -/
def execReadReaction (s : State) : Host.Outcome State Fault Refusal :=
  .next (takeByOwner .readReaction .escalation readReaction s)

end Sys2Proof.Machine
end

