-- ==== Sys2Proof/Machine/Policy.lean ====
section
/-! DEFINITION. The engine state commands and the policy commands: ENTER_CONFIG, LEAVE_CONFIG, SET_MEMORY, READ_MEMORY, SET_REGION, READ_REGION, UNMUTE_REGION, and the reach of a region's decay deadline (sections 4.7, 2.2, 2.5 and R45). -/

namespace Sys2Proof.Machine

/-- The engine state replaced (R61). -/
def State.setMode (s : State) (m : EngineMode) : State := s.setEngine { s.engine with mode := m }

/-- ENTER_CONFIG carried out (R71). -/
def enterConfig (s : State) : State :=
  match s.engine.mode with
  | .run => complete .ok none (s.setMode .config)
  | .config => complete .already none s

/-- ENTER_CONFIG (R71). -/
def execEnterConfig (s : State) : Host.Outcome State Fault Refusal :=
  .next (takeByOwner .enterConfig .engine enterConfig s)

/-- LEAVE_CONFIG carried out (R73). -/
def leaveConfig (s : State) : State :=
  match s.engine.mode with
  | .config => complete .ok none (s.setMode .run)
  | .run => complete .already none s

/-- LEAVE_CONFIG (R73). -/
def execLeaveConfig (s : State) : Host.Outcome State Fault Refusal :=
  .next (takeByOwner .leaveConfig .engine leaveConfig s)

/-! ## Memories -/

/-- The C-records whose keys name a memory (R37). -/
def countC (m : MemId) (e : Engine) : Nat := e.cRecords.countP fun r => r.core.key.mem == m

/-- The S-records whose keys name a memory (R37). -/
def countS (m : MemId) (e : Engine) : Nat := e.sRecords.countP fun r => r.core.key.mem == m

/-- Whether any record or job names a memory (R36, check 6). -/
def memoryInUse (m : MemId) (s : State) : Bool :=
  s.engine.cRecords.any (fun r => r.core.key.mem == m) || s.engine.sRecords.any (fun r => r.core.key.mem == m) ||
    s.sched.jobs.any fun j => j.key.mem == m

/-- The size that PARAM3 and PARAM4 of SET_MEMORY give, from 1 to 2^29 (R36, check 5). -/
def sizeOf (low high : Word) : Option Nat :=
  let n := (joinWords low high).toNat
  if 1 ≤ n ∧ n ≤ Config.maxGranules then some n else none

/-- The memory id and the new entry that the parameters of SET_MEMORY give (R36, checks 2 to 5). -/
def memoryParams (s : State) : Option (MemId × MemoryEntry) := do
  let m ← wordBelow 16 (s.param 0)
  let owner ← ownerOf (s.param 1)
  let granule ← granuleSizeOf (s.param 2)
  let size ← sizeOf (s.param 3) (s.param 4)
  some (m, { owner := owner, granuleSize := granule, size := size, codeAgrees := true })

/-- A memory entry replaced (R36). -/
def State.setMemory (s : State) (m : MemId) (e : MemoryEntry) : State :=
  s.setEngine { s.engine with memories := s.engine.memories.set m.val e }

/-- SET_MEMORY carried out (R36). -/
def setMemory (s : State) : State :=
  match s.engine.mode with
  | .run => complete .refusedState none s
  | .config =>
    match memoryParams s with
    | none => complete .badParam none s
    | some (m, e) =>
      if memoryInUse m s then complete .inUse none s else complete .ok none (s.setMemory m e)

/-- SET_MEMORY (R36). -/
def execSetMemory (s : State) : Host.Outcome State Fault Refusal :=
  .next (takeByOwner .setMemory .engine setMemory s)

/-- READ_MEMORY carried out (R37). -/
def readMemory (s : State) : State :=
  match wordBelow 16 (s.param 0) with
  | none => complete .badParam none s
  | some m =>
    complete .ok (some (viewMemory m s.engine.memories[m] (countC m s.engine) (countS m s.engine))) s

/-- READ_MEMORY (R37). -/
def execReadMemory (s : State) : Host.Outcome State Fault Refusal :=
  .next (takeByOwner .readMemory .engine readMemory s)

/-! ## Regions -/

/-- The parts of a region entry that a command names in bits 15:8 of PARAM0 (Table 11-5). -/
inductive RegionPart where
  | range | policy | counters
  deriving DecidableEq, Repr

/-- The part a byte names (Table 11-5). -/
def regionPartOf (b : Byte) : Option RegionPart :=
  if b = 0 then some .range else if b = 1 then some .policy else if b = 2 then some .counters else none

/-- A granule number given in two registers; above 2^29 - 1 it is none (R47, check 5). -/
def granuleParam (low high : Word) : Option Granule :=
  let n := (joinWords low high).toNat
  if n < Config.maxGranules then some (BitVec.ofNat 29 n) else none

/-- The range that PARAM1 to PARAM5 of SET_REGION give (R47, check 5; Table 11-5). -/
def rangeParams (s : State) : Option RegionRange := do
  let base ← granuleParam (s.param 2) (s.param 3)
  let limit ← granuleParam (s.param 4) (s.param 5)
  if base ≤ limit then
    some { enabled := (s.param 1).getLsbD 0, mem := (((s.param 1).extractLsb' 8 4).toFin : Fin 16),
           base := base, limit := limit }
  else none

/-- The policy that PARAM1 to PARAM4 of SET_REGION give (R47, check 6; Table 11-5). -/
def policyParams (s : State) : Option RegionPolicy := do
  let cls ← severeClassOf (s.param 4)
  if lowByte (s.param 1) ≠ 0 ∧ (highByte (s.param 1)).toNat ≤ 15 ∧ s.param 3 ≠ 0 then
    some { threshold := lowByte (s.param 1), verifyEnable := (s.param 2).getLsbD 15,
           softLimit := (s.param 1).extractLsb' 8 4, burstLimit := lowByte (s.param 2),
           decayPeriod := s.param 3, severeClass := cls }
  else none

/-- The state fields of a region with its burst and mute state cleared; the counters are kept (R46, R48). -/
def RegionCounts.unmuted (c : RegionCounts) : RegionCounts :=
  { c with muted := false, burst := 0, decayDeadline := none }

/-- The end of a SET_REGION that ends with OK, whatever the part: burst and mute state cleared, code rewritten (R48). -/
def Region.rewritten (r : Region) : Region := { r with counts := r.counts.unmuted, codeAgrees := true }

/-- A range written into a region entry 0 to 11 (R48). -/
def writeRange (ix : Fin 12) (r : RegionRange) (s : State) : State :=
  let s' := s.setEngine { s.engine with ranges := s.engine.ranges.set ix.val r }
  s'.setRegion ix.castSucc s'.engine.regions[ix.castSucc].rewritten

/-- A policy written into a region (R48). -/
def writePolicy (ix : RegionIx) (p : RegionPolicy) (s : State) : State :=
  s.setRegion ix ({ s.engine.regions[ix] with policy := p } : Region).rewritten

/-- SET_REGION with part RANGE; the default region has no range (R47, checks 4 and 5). -/
def setRange (ix : RegionIx) (s : State) : State :=
  match rangeParams s with
  | none => complete .badParam none s
  | some r =>
    if h : ix.val < 12 then complete .ok none (writeRange ⟨ix.val, h⟩ r s)
    else complete .badParam none s

/-- SET_REGION with part POLICY (R47, check 6). -/
def setPolicy (ix : RegionIx) (s : State) : State :=
  match policyParams s with
  | none => complete .badParam none s
  | some p => complete .ok none (writePolicy ix p s)

/-- SET_REGION carried out (R47). -/
def setRegion (s : State) : State :=
  match s.engine.mode with
  | .run => complete .refusedState none s
  | .config =>
    match byteBelow 13 (lowByte (s.param 0)), regionPartOf (highByte (s.param 0)) with
    | some ix, some .range => setRange ix s
    | some ix, some .policy => setPolicy ix s
    | _, _ => complete .badParam none s

/-- SET_REGION (R47). -/
def execSetRegion (s : State) : Host.Outcome State Fault Refusal :=
  .next (takeByOwner .setRegion .engine setRegion s)

/-- READ_REGION carried out (R49). -/
def readRegion (s : State) : State :=
  match byteBelow 13 (lowByte (s.param 0)), regionPartOf (highByte (s.param 0)) with
  | some ix, some .range =>
    if h : ix.val < 12 then complete .ok (some (viewRange s.engine.ranges[ix.val])) s
    else complete .badParam none s
  | some ix, some .policy => complete .ok (some (viewPolicy s.engine.regions[ix])) s
  | some ix, some .counters => complete .ok (some (viewCounters s.engine.regions[ix])) s
  | _, _ => complete .badParam none s

/-- READ_REGION (R49). -/
def execReadRegion (s : State) : Host.Outcome State Fault Refusal :=
  .next (takeByOwner .readRegion .engine readRegion s)

/-- UNMUTE_REGION carried out (R46). -/
def unmuteRegion (s : State) : State :=
  match wordBelow 13 (s.param 0) with
  | none => complete .badParam none s
  | some ix =>
    let c := s.engine.regions[ix].counts
    if c.muted then complete .ok none (s.setCounts ix c.unmuted) else complete .already none s

/-- UNMUTE_REGION (R46). -/
def execUnmuteRegion (s : State) : Host.Outcome State Fault Refusal :=
  .next (takeByOwner .unmuteRegion .engine unmuteRegion s)

/-- The state fields of a region after its decay deadline's reach at a stamp: the burst counter falls by one; the
deadline is armed again while the counter is above 0 (R45). -/
def RegionCounts.decayed (c : RegionCounts) (stamp : Stamp) (period : Word) : RegionCounts :=
  let burst := if c.burst = 0 then 0 else c.burst - 1
  { c with burst := burst, decayDeadline := if burst = 0 then none else some (armed stamp period) }

/-- The reach of a region's decay deadline, where it is present and reached (R45, R57). -/
def decay (ix : RegionIx) (s : State) : State :=
  let r := s.engine.regions[ix]
  if reachedOpt s.time.stamp r.counts.decayDeadline then
    s.setCounts ix (r.counts.decayed s.time.stamp r.policy.decayPeriod)
  else s

/-- DECAY_DEADLINE (R45). -/
def execDecayDeadline (ix : RegionIx) (s : State) : Host.Outcome State Fault Refusal :=
  .next (whenRunning (decay ix) s)

end Sys2Proof.Machine
end

