-- ==== Sys2Proof/Machine/Ports.lean ====
section
/-! DEFINITION. The report ports: frames on the lanes and the port commands (chapter 5, R176, R177). -/

namespace Sys2Proof.Machine

/-! ## Good frames -/

/-- A frame produced by a port of the part (R83). -/
def sendFrame (ix : PortIx) (f : OutFrame) (s : State) : State := s.setPort ix (s.ports[ix].produce f)

/-- The fields of a port after a HELLO that opens or restarts its link (R84, R85). -/
def Port.linked (p : Port) (next : Byte) (reporter : Word) : Port :=
  { p with mode := .ready, expected := next, lastAccepted := none, reporterId := some reporter }

/-- A HELLO opens or restarts the link: WELCOME, and the request in flight ends (R84, R85). -/
def openLink (ix : PortIx) (next : Byte) (reporter : Word) (s : State) : State :=
  endRequest ix
    (s.setPort ix ((s.ports[ix].linked next reporter).produce (.welcome ix next)))

/-- A port takes a HELLO (R84, R85). -/
def takeHello (ix : PortIx) (next : Byte) (reporter : Word) (s : State) : State :=
  match s.ports[ix].mode with
  | .down => s
  | .listen | .ready => openLink ix next reporter s
  | .halted => sendFrame ix (.nak 0 .halted) s

/-- The report of a REPORT frame, where its kind is one of the five, its memory id is at most 15 and its byte address lies
within the memory as the table then holds it (R86, check 3; R178). -/
def admissible (f : ReportFrame) (s : State) : Option Report := do
  let kind ← kindOfCode f.kind
  let mem ← byteBelow 16 f.mem
  if inMemory s.engine.memories[mem] f.addr then
    some { seq := f.seq, kind := kind, mem := mem, addr := f.addr,
           master := f.master.map (fun b => b.extractLsb' 0 6), syndrome := f.syndrome }
  else none

/-- The port after a report enters its queue (R86, check 6; R87). -/
def Port.accept (p : Port) (r : Report) : Port :=
  { p with queue := p.queue ++ [r], lastAccepted := some r.seq, expected := p.expected + 1 }

/-- Checks 3 to 6 of a REPORT in READY whose sequence number is the expected one (R86). -/
def admitReport (ix : PortIx) (f : ReportFrame) (s : State) : State :=
  match admissible f s with
  | none => sendFrame ix (.nak f.seq .range) s
  | some r =>
    if s.engine.memories[r.mem].owner ≠ some ix then sendFrame ix (.nak f.seq .foreign) s
    else if Config.portQueueDepth ≤ s.ports[ix].queue.length then sendFrame ix (.nak f.seq .busy) s
    else s.setPort ix ((s.ports[ix].accept r).produce (.ack f.seq))

/-- A REPORT in READY, judged by the checks of R86 in their order. -/
def judgeFrame (ix : PortIx) (f : ReportFrame) (s : State) : State :=
  let p := s.ports[ix]
  if p.lastAccepted = some f.seq then sendFrame ix (.ack f.seq) s
  else if f.seq ≠ p.expected then
    s.setPort ix
      (({ p with sequenceErrors := satInc p.sequenceErrors } : Port).produce (.nak f.seq .sequence))
  else admitReport ix f s

/-- A port takes a REPORT (R86, R88). -/
def takeReportFrame (ix : PortIx) (f : ReportFrame) (s : State) : State :=
  match s.ports[ix].mode with
  | .down => s
  | .listen => sendFrame ix (.nak f.seq .notReady) s
  | .ready => judgeFrame ix f s
  | .halted => sendFrame ix (.nak f.seq .halted) s

/-- The answer a verdict result gives its job (R91, R111); any other result byte is no verdict (R92). -/
def answerOf (result : Byte) : Option Answer :=
  if result = 1 then some .clean else if result = 2 then some .persists
  else if result = 3 then some .failed else none

/-- The verdict notification: the job IN_FLIGHT on the port with the tag becomes ANSWERED; where none matches, nothing
changes (R111, R110). -/
def verdictNotification (ix : PortIx) (tag : Tag) (a : Answer) (s : State) : State :=
  match s.sched.jobs.find? (Job.inFlightOn ix tag) with
  | some j => answerJob j ix tag a s
  | none => s

/-- A VERDICT that does not match is stale, discarded and counted (R92). -/
def staleVerdict (ix : PortIx) (s : State) : State :=
  s.setPort ix { s.ports[ix] with staleVerdicts := satInc s.ports[ix].staleVerdicts }

/-- A VERDICT in READY compared with the outstanding tag (R91, R92). -/
def matchVerdict (ix : PortIx) (tag result : Byte) (s : State) : State :=
  match s.ports[ix].outstanding, answerOf result with
  | some t, some a =>
    if tag = t.setWidth 8 then
      verdictNotification ix t a (s.setPort ix { s.ports[ix] with outstanding := none })
    else staleVerdict ix s
  | _, _ => staleVerdict ix s

/-- A port takes a VERDICT; in LISTEN and HALTED it is discarded without counting (R91, R92). -/
def takeVerdict (ix : PortIx) (tag result : Byte) (s : State) : State :=
  match s.ports[ix].mode with
  | .ready => matchVerdict ix tag result s
  | .down | .listen | .halted => s

/-- A port takes a good frame in its present state (R80). -/
def takeGood (ix : PortIx) (f : InFrame) (s : State) : State :=
  match f with
  | .hello next reporter => takeHello ix next reporter s
  | .report frame => takeReportFrame ix frame s
  | .verdict tag result => takeVerdict ix tag result s

/-- A good frame completes: only a frame under reception can (R80, R82). -/
def completeGood (ix : PortIx) (f : InFrame) (s : State) : State :=
  if s.ports[ix].rx.isSome then takeGood ix f (endReception ix s) else s

/-- The bytes of the frame under reception decide what completes: a good frame, a bad frame, or, while bytes are still
missing, nothing (R80, R81, R177). -/
def completeBytes (ix : PortIx) (bytes : List Byte) (s : State) : State :=
  match receive bytes with
  | .good f => completeGood ix f s
  | .bad => if s.ports[ix].rx.isSome then discardFrame ix s else s
  | .incomplete => s

/-- HELLO (R84, R85). -/
def execHello (ix : PortIx) (next : Byte) (reporter : Word) (s : State) :
    Host.Outcome State Fault Refusal :=
  .next (whenRunning (completeGood ix (.hello next reporter)) s)

/-- REPORT (R86). -/
def execReport (ix : PortIx) (f : ReportFrame) (s : State) : Host.Outcome State Fault Refusal :=
  .next (whenRunning (completeGood ix (.report f)) s)

/-- VERDICT (R91). -/
def execVerdict (ix : PortIx) (tag result : Byte) (s : State) : Host.Outcome State Fault Refusal :=
  .next (whenRunning (completeGood ix (.verdict tag result)) s)

/-- BAD_FRAME (R81): the bytes that the sampled bits hold are judged (R176). -/
def execBadFrame (ix : PortIx) (bits : List Bool) (s : State) : Host.Outcome State Fault Refusal :=
  .next (whenRunning (completeBytes ix (bytesOnLane bits)) s)

/-! ## Low periods and the frame timeout -/

/-- A start delimiter puts a frame under reception, with its frame timeout deadline and its bit time; the port no longer
ignores the lane (R80, R176). -/
def startFrame (ix : PortIx) (low : Clocks) (s : State) : State :=
  s.setPort ix
    { s.ports[ix] with
      rx := some { deadline := armed s.time.stamp s.win.settings.frameTimeout,
                   bitTime := low / Config.delimiterBits }
      ignoring := none
      bitTime := some (low / Config.delimiterBits) }

/-- The port ignores the lane, or no longer does (R176). -/
def setIgnoring (ix : PortIx) (b : Option Clocks) (s : State) : State :=
  s.setPort ix { s.ports[ix] with ignoring := b }

/-- Whether the port ignores a low period: it ignores the lane, and the high period before was shorter than the bit time
for which the line must have been high (R176). -/
def Port.ignores (p : Port) (high : Clocks) : Bool := p.ignoring.any fun b => high < b

/-- A low period with no frame under reception: ignored, or a start delimiter that opens a frame, or no start delimiter
(R176). -/
def openFrame (ix : PortIx) (high low : Clocks) (s : State) : State :=
  if s.ports[ix].ignores high then s
  else if isDelimiter low then startFrame ix low s
  else setIgnoring ix none s

/-- A low period of more than 12 bit times that ended a frame of a bit time: it opens another frame where it is a start
delimiter, and otherwise the port ignores the lane until the line has been high for that bit time (R176). -/
def afterTruncation (ix : PortIx) (bitTime low : Clocks) (s : State) : State :=
  if isDelimiter low then startFrame ix low s else setIgnoring ix (some bitTime) s

/-- A low period on the inbound lane of a port that is not DOWN: with no frame under reception it opens one where it is a
start delimiter; during a frame it ends the frame as truncated where it is longer than 12 of its bit times, and then
opens another where it is a start delimiter (R80, R81, R176). -/
def lowPeriodOf (ix : PortIx) (high low : Clocks) (s : State) : State :=
  match s.ports[ix].rx with
  | none => openFrame ix high low s
  | some f =>
    if Config.longLowBits * f.bitTime < low then afterTruncation ix f.bitTime low (discardFrame ix s) else s

/-- A low period on a port's inbound lane; in DOWN the port receives nothing (R80). -/
def lowPeriod (ix : PortIx) (high low : Clocks) (s : State) : State :=
  match s.ports[ix].mode with
  | .down => s
  | .listen | .ready | .halted => lowPeriodOf ix high low s

/-- START_DELIMITER (R80). -/
def execStartDelimiter (ix : PortIx) (p : LowPeriod) (s : State) : Host.Outcome State Fault Refusal :=
  .next (whenRunning (lowPeriod ix p.high p.low) s)

/-- LONG_LOW_PERIOD (R176). -/
def execLongLowPeriod (ix : PortIx) (p : LowPeriod) (s : State) : Host.Outcome State Fault Refusal :=
  .next (whenRunning (lowPeriod ix p.high p.low) s)

/-- The reach of the frame timeout deadline of a frame under reception truncates it (R82). -/
def timeoutFrame (ix : PortIx) (s : State) : State :=
  if reachedOpt s.time.stamp (s.ports[ix].rx.map Reception.deadline) then discardFrame ix s else s

/-- FRAME_TIMEOUT (R82). -/
def execFrameTimeout (ix : PortIx) (s : State) : Host.Outcome State Fault Refusal :=
  .next (whenRunning (timeoutFrame ix) s)

/-- The outbound lane after the frame being sent is finished: the next of the list begins, at the bit time the port then
holds (R83, R176). That it begins in this happening, ahead of the 2 bit times high of R176, is log entry 16. -/
def Port.sentOne (p : Port) : Port :=
  match p.sending, p.waiting with
  | none, _ => p
  | some _, [] => { p with sending := none }
  | some _, f :: rest => { p with sending := some { frame := f, bitTime := p.bitTime }, waiting := rest }

/-- OUTBOUND_FRAME_SENT (R83). -/
def execOutboundFrameSent (ix : PortIx) (s : State) : Host.Outcome State Fault Refusal :=
  .next (whenRunning (fun s => s.setPort ix s.ports[ix].sentOne) s)

/-! ## Port commands -/

/-- The fields of a port on entry to DOWN but for the request in flight: the queue is flushed, a frame under reception is
abandoned, and frames that have not begun to be sent are discarded (R97, R83). -/
def Port.disabled (p : Port) : Port :=
  { p.flush with mode := .down, rx := none, ignoring := none, bitTime := none, waiting := [] }

/-- SET_PORT's effect on the named port (R97). -/
def setPortMode (ix : PortIx) (enable : Bool) (s : State) : State :=
  match enable, s.ports[ix].mode with
  | true, .down => s.setPort ix { s.ports[ix] with mode := .listen }
  | true, _ => s
  | false, .down => s
  | false, _ => endRequest ix (s.setPort ix s.ports[ix].disabled)

/-- SET_PORT carried out by the port (R97). -/
def setPort (ix : PortIx) (s : State) : State :=
  let word := s.param 1
  complete .ok none
    (setPortMode ix (word.getLsbD 0) (s.setPort ix { s.ports[ix] with haltOnError := word.getLsbD 1 }))

/-- SET_PORT (R97). -/
def execSetPort (s : State) : Host.Outcome State Fault Refusal := .next (takeByPort .setPort setPort s)

/-- RESTART_PORT carried out by the port (R98). -/
def restartPort (ix : PortIx) (s : State) : State :=
  match s.ports[ix].mode with
  | .halted => complete .ok none (s.setPort ix { s.ports[ix] with mode := .listen })
  | .down | .listen | .ready => complete .refusedState none s

/-- RESTART_PORT (R98). -/
def execRestartPort (s : State) : Host.Outcome State Fault Refusal :=
  .next (takeByPort .restartPort restartPort s)

/-- FLUSH_PORT carried out by the port (R99). -/
def flushPort (ix : PortIx) (s : State) : State :=
  complete .ok none (s.setPort ix s.ports[ix].flush)

/-- FLUSH_PORT (R99). -/
def execFlushPort (s : State) : Host.Outcome State Fault Refusal :=
  .next (takeByPort .flushPort flushPort s)

/-- READ_PORT carried out by the port (R100). -/
def readPort (ix : PortIx) (s : State) : State := complete .ok (some (viewPort s.ports[ix])) s

/-- READ_PORT (R100). -/
def execReadPort (s : State) : Host.Outcome State Fault Refusal :=
  .next (takeByPort .readPort readPort s)

end Sys2Proof.Machine
end

