-- ==== Sys2Proof/Machine/Records.lean ====
section
/-! DEFINITION. The record commands of the engine: FETCH_RECORD, FIND_RECORD, RETIRE_RECORD, PIN_RECORD, UNPIN_RECORD, SETTLE_RECORD and CLEAR_TABLES (section 1.7, R180). -/

namespace Sys2Proof.Machine

/-- FETCH_RECORD carried out: page by bit 8 of PARAM0 (R25, R179). -/
def fetchRecord (s : State) : State :=
  let page1 := (s.param 0).getLsbD 8
  match namedRecord s with
  | none => complete .badParam none s
  | some (.c slot) =>
    match s.engine.cTable[slot] with
    | none => complete .notFound none s
    | some r =>
      complete .ok
        (some (if page1 then viewPage1 (.c slot) r.core
          else viewCRecord slot r (jobFor slot s.sched.jobs))) s
  | some (.s slot) =>
    match s.engine.sTable[slot] with
    | none => complete .notFound none s
    | some r =>
      complete .ok (some (if page1 then viewPage1 (.s slot) r.core else viewSRecord slot r)) s

/-- FETCH_RECORD (R25). -/
def execFetchRecord (s : State) : Host.Outcome State Fault Refusal :=
  .next (takeByOwner .fetchRecord .engine fetchRecord s)

/-- FIND_RECORD's look-up of a byte address of an owned memory (R26, R1). -/
def findAddress (m : MemId) (addr : BitVec 32) (s : State) : State :=
  let k := s.keyOf m addr
  match s.findC k, s.findS k with
  | some (slot, r), _ => complete .ok (some (viewFound (.c slot) r.core)) s
  | none, some (slot, r) => complete .ok (some (viewFound (.s slot) r.core)) s
  | none, none => complete .notFound none s

/-- FIND_RECORD carried out (R26). -/
def findRecord (s : State) : State :=
  let addr := joinWords (s.param 1) (s.param 2)
  match wordBelow 16 (s.param 0) with
  | none => complete .badParam none s
  | some m =>
    let e := s.engine.memories[m]
    if e.owner.isSome && inMemory e addr then findAddress m addr s else complete .badParam none s

/-- FIND_RECORD (R26). -/
def execFindRecord (s : State) : Host.Outcome State Fault Refusal :=
  .next (takeByOwner .findRecord .engine findRecord s)

/-- A command on a C-record that carries a version: the checks of R24 and R180, then the command's own part. -/
def onVersionC (slot : CSlot) (v : Byte) (own : CRecord → State → State) (s : State) : State :=
  match s.engine.cTable[slot] with
  | none => complete .notFound none s
  | some r => if r.core.version = v then own r s else complete .stale none s

/-- A command on an S-record that carries a version: the checks of R24 and R180, then the command's own part. -/
def onVersionS (slot : SSlot) (v : Byte) (own : SRecord → State → State) (s : State) : State :=
  match s.engine.sTable[slot] with
  | none => complete .notFound none s
  | some r => if r.core.version = v then own r s else complete .stale none s

/-- RETIRE_RECORD carried out (R27). -/
def retireRecord (s : State) : State :=
  match namedRecord s, versionParam s with
  | some (.c slot), some v =>
    onVersionC slot v (fun r s => complete .ok none (removeC slot r s)) s
  | some (.s slot), some v =>
    onVersionS slot v (fun _ s => complete .ok none (s.dropS slot)) s
  | _, _ => complete .badParam none s

/-- RETIRE_RECORD (R27). -/
def execRetireRecord (s : State) : Host.Outcome State Fault Refusal :=
  .next (takeByOwner .retireRecord .engine retireRecord s)

/-- The pinned count replaced (R28). -/
def State.setPinned (s : State) (n : Nat) : State := s.setEngine { s.engine with pinnedCount := n }

/-- PIN_RECORD's own part (R28). -/
def pinOwn (slot : CSlot) (r : CRecord) (s : State) : State :=
  if r.pinned then complete .already none s
  else if Config.pinLimit ≤ s.engine.pinnedCount then complete .full none s
  else
    complete .ok none
      ((s.putC slot { r with pinned := true }).setPinned (s.engine.pinnedCount + 1))

/-- PIN_RECORD carried out (R28). -/
def pinRecord (s : State) : State :=
  match namedRecord s, versionParam s with
  | some (.c slot), some v => onVersionC slot v (pinOwn slot) s
  | _, _ => complete .badParam none s

/-- PIN_RECORD (R28). -/
def execPinRecord (s : State) : Host.Outcome State Fault Refusal :=
  .next (takeByOwner .pinRecord .engine pinRecord s)

/-- UNPIN_RECORD's own part (R29). -/
def unpinOwn (slot : CSlot) (r : CRecord) (s : State) : State :=
  if r.pinned then
    complete .ok none
      ((s.putC slot { r with pinned := false }).setPinned (s.engine.pinnedCount - 1))
  else complete .already none s

/-- UNPIN_RECORD carried out (R29). -/
def unpinRecord (s : State) : State :=
  match namedRecord s, versionParam s with
  | some (.c slot), some v => onVersionC slot v (unpinOwn slot) s
  | _, _ => complete .badParam none s

/-- UNPIN_RECORD (R29). -/
def execUnpinRecord (s : State) : Host.Outcome State Fault Refusal :=
  .next (takeByOwner .unpinRecord .engine unpinRecord s)

/-- SETTLE_RECORD's own part (R30). -/
def settleOwn (slot : SSlot) (r : SRecord) (s : State) : State :=
  match r.mode with
  | .settled => complete .already none s
  | .opened =>
    complete .ok none (s.putS slot { r with core := r.core.advanced, mode := .settled })

/-- SETTLE_RECORD carried out (R30). -/
def settleRecord (s : State) : State :=
  match namedRecord s, versionParam s with
  | some (.s slot), some v => onVersionS slot v (settleOwn slot) s
  | _, _ => complete .badParam none s

/-- SETTLE_RECORD (R30). -/
def execSettleRecord (s : State) : Host.Outcome State Fault Refusal :=
  .next (takeByOwner .settleRecord .engine settleRecord s)

/-- Every job of the verify queue withdrawn, in queue order (R31, R121). -/
def withdrawAll (s : State) : State :=
  (s.sched.jobs.map Job.slot).foldl (fun s slot => withdraw slot s) s

/-- CLEAR_TABLES carried out (R31). -/
def clearTables (s : State) : State :=
  match s.engine.mode with
  | .run => complete .refusedState none s
  | .config =>
    let s' := withdrawAll s
    complete .ok none
      (s'.setEngine
        { s'.engine with
          cTable := Vector.replicate 32 none
          sTable := Vector.replicate 16 none
          pinnedCount := 0
          cFullArmed := true })

/-- CLEAR_TABLES (R31). -/
def execClearTables (s : State) : Host.Outcome State Fault Refusal :=
  .next (takeByOwner .clearTables .engine clearTables s)

end Sys2Proof.Machine
end

