-- ==== Sys2Proof/Machine/Reports.lean ====
section
/-! DEFINITION. TAKE_REPORT: the steps by which the record engine takes a report and applies it to the tables (R62 to R67, chapter 1, section 2.4). -/

namespace Sys2Proof.Machine

/-! ## The C-table -/

/-- Whether the threshold check asks for a job: hits since verdict at or above the region's threshold, and verify enable
set (R14). -/
def wantsJob (p : RegionPolicy) (r : CRecord) : Bool :=
  p.threshold.toNat ≤ r.hitsSinceVerdict.toNat && p.verifyEnable

/-- The threshold check of the record in a C slot: in COUNTING or UNVERIFIED, at the threshold, a NORMAL job is asked for,
and entered where the queue has room (R14, R106). -/
def thresholdCheck (slot : CSlot) (r : CRecord) (s : State) : State :=
  match r.mode with
  | .counting | .unverified =>
    if wantsJob (s.policy r.core.region) r && s.queueRoom then enterJob slot r .normal s else s
  | .suspect | .hard => s

/-- The report update of a C-record: hits since verdict rises with hits (R11, R3). -/
def CRecord.updated (r : CRecord) (rep : Report) (stamp : Stamp) : CRecord :=
  { r with core := r.core.updated rep stamp, hitsSinceVerdict := satInc r.hitsSinceVerdict }

/-- A correctable report whose key is in the C-table: report update, then threshold check (R13). -/
def updateC (slot : CSlot) (r : CRecord) (rep : Report) (s : State) : State :=
  let r' := r.updated rep s.time.stamp
  thresholdCheck slot r' (s.putC slot r')

/-- The C-record a correctable report creates (R15). -/
def CRecord.ofReport (k : Key) (region : RegionIx) (rep : Report) (stamp : Stamp) : CRecord :=
  { core := .ofReport k region rep stamp, mode := .counting, pinned := false, hitsSinceVerdict := 1,
    softVerdicts := 0, lastVerdict := .none, hardReason := none }

/-- A new C-record in a slot, with its threshold check (R15). -/
def createC (slot : CSlot) (k : Key) (region : RegionIx) (rep : Report) (s : State) : State :=
  let r := CRecord.ofReport k region rep s.time.stamp
  thresholdCheck slot r (s.putC slot r)

/-- Whether a C-record is evictable: COUNTING and not pinned (R16). -/
def CRecord.evictable (r : CRecord) : Bool := r.mode == .counting && !r.pinned

/-- The evictable records with their slots and ages, in slot order (R16). -/
def State.evictables (s : State) : List (CSlot × CRecord) :=
  (List.finRange 32).filterMap fun i =>
    match s.engine.cTable[i] with
    | some r => if r.evictable then some (i, r) else none
    | none => none

/-- The older of a candidate and the best so far; the earlier one where the ages are equal (R16). -/
def olderOf (stamp : Stamp) (best : Option (CSlot × CRecord)) (c : CSlot × CRecord) :
    Option (CSlot × CRecord) :=
  match best with
  | none => some c
  | some b => if age stamp b.2.core.lastStamp < age stamp c.2.core.lastStamp then some c else some b

/-- The victim: the evictable record of greatest age, the lowest slot among equals (R16, R58). -/
def State.victim (s : State) : Option (CSlot × CRecord) :=
  s.evictables.foldl (olderOf s.time.stamp) none

/-- The eviction of a record: its own region's evictions counter rises; its slot is taken by the new record in the same
item (R16). -/
def countEviction (ix : RegionIx) (s : State) : State :=
  let c := s.engine.regions[ix].counts
  s.setCounts ix { c with evictions := satInc c.evictions }

/-- A correctable report that finds the C-table full and nothing evictable (R17). -/
def unrecordedC (k : Key) (region : RegionIx) (s : State) : State :=
  let s' := countUnrecorded region s
  if s.engine.cFullArmed then
    post (.tableFull k region) false (s'.setEngine { s'.engine with cFullArmed := false })
  else s'

/-- A correctable report whose key is in neither table: a free slot, an eviction, or unrecorded (R15, R16, R17). -/
def recordC (k : Key) (region : RegionIx) (rep : Report) (s : State) : State :=
  match s.freeC with
  | some slot => createC slot k region rep s
  | none =>
    match s.victim with
    | some (slot, r) => createC slot k region rep (countEviction r.core.region s)
    | none => unrecordedC k region s

/-- The table effect of a correctable report (R12, R13, R15). -/
def applyCorrectable (k : Key) (region : RegionIx) (rep : Report) (s : State) : State :=
  match s.findS k with
  | some (slot, r) => s.putS slot { r with core := r.core.updated rep s.time.stamp }
  | none =>
    match s.findC k with
    | some (slot, r) => updateC slot r rep s
    | none => recordC k region rep s

/-! ## The S-table -/

/-- A severe report whose key is in the S-table: report update; a SETTLED record is reopened with a SEVERE notice that
carries the repeat flag (R19). -/
def updateS (slot : SSlot) (r : SRecord) (rep : Report) (s : State) : State :=
  let core := r.core.updated rep s.time.stamp
  let s' := s.putS slot { r with core := core, mode := .opened }
  match r.mode with
  | .settled => postSevere (.s slot) core true s'
  | .opened => s'

/-- The promotion of a C-record to a free S slot (R20). -/
def promote (slot : CSlot) (r : CRecord) (free : SSlot) (rep : Report) (s : State) : State :=
  let core := r.core.advanced.applied rep s.time.stamp
  postSevere (.s free) core false
    (removeC slot r (s.putS free { core := core, mode := .opened, origin := .promoted }))

/-- A severe report that finds no free S slot: unrecorded, S_OVERFLOW notice, S_OVERFLOW cause (R21, R22). -/
def overflowS (k : Key) (region : RegionIx) (s : State) : State :=
  let s' := countUnrecorded region s
  takeCause .sOverflow (postedSeq s') (some k) (post (.sOverflow k region) false s')

/-- A severe report whose key is in neither table creates an S-record (R22). -/
def createS (slot : SSlot) (k : Key) (region : RegionIx) (rep : Report) (s : State) : State :=
  let core := RecordCore.ofReport k region rep s.time.stamp
  postSevere (.s slot) core false (s.putS slot { core := core, mode := .opened, origin := .created })

/-- The table effect of a severe report (R19 to R22). -/
def applySevere (k : Key) (region : RegionIx) (rep : Report) (s : State) : State :=
  match s.findS k, s.findC k, s.freeS with
  | some (slot, r), _, _ => updateS slot r rep s
  | none, some (slot, r), some free => promote slot r free rep s
  | none, none, some free => createS free k region rep s
  | none, _, none => overflowS k region s

/-! ## Region accounting -/

/-- A region that becomes muted at its burst limit (R43). -/
def RegionCounts.mute (c : RegionCounts) : RegionCounts := { c with muted := true, decayDeadline := none }

/-- The burst counter raised by one; from 0 the decay deadline is armed (R43). -/
def RegionCounts.burstRaised (c : RegionCounts) (stamp : Stamp) (period : Word) : RegionCounts :=
  { c with
    burst := c.burst + 1
    decayDeadline := if c.burst = 0 then some (armed stamp period) else c.decayDeadline }

/-- Burst counting of a correctable report that passed the mute step (R43). -/
def burstCount (ix : RegionIx) (s : State) : State :=
  let p := s.policy ix
  if p.burstLimit = 0 then s
  else
    let c := s.engine.regions[ix].counts.burstRaised s.time.stamp p.decayPeriod
    if c.burst = p.burstLimit then post (.burst ix) false (s.setCounts ix c.mute)
    else s.setCounts ix c

/-- A region's muted counter raised by one (R42, R44). -/
def countMuted (ix : RegionIx) (s : State) : State :=
  let c := s.engine.regions[ix].counts
  s.setCounts ix { c with mutedReports := satInc c.mutedReports }

/-- A region's accepted counter raised by one (R42). -/
def countAccepted (ix : RegionIx) (s : State) : State :=
  let c := s.engine.regions[ix].counts
  s.setCounts ix { c with accepted := satInc c.accepted }

/-- Steps 4 to 7 of taking a report: mute step, acceptance, burst counting, table effect (R66). -/
def applyReport (k : Key) (region : RegionIx) (rep : Report) (s : State) : State :=
  if rep.kind.severe then applySevere k region rep (countAccepted region s)
  else if s.engine.regions[region].counts.muted then countMuted region s
  else applyCorrectable k region rep (burstCount region (countAccepted region s))

/-- The ownership check of a report taken from a port's queue (R35). -/
def ownershipOk (port : PortIx) (rep : Report) (s : State) : Bool :=
  let e := s.engine.memories[rep.mem]
  e.owner == some port && inMemory e rep.addr

/-- Steps 2 to 7 of taking a report from a port's queue (R66). -/
def judgeReport (port : PortIx) (rep : Report) (s : State) : State :=
  if ownershipOk port rep s then
    let k := s.keyOf rep.mem rep.addr
    applyReport k (s.lookupRegion k) rep s
  else countUnrecorded regionD s

/-! ## The take -/

/-- The ports in the order of a search that starts after the port last served; that port comes last (R64). -/
def searchOrder (last : PortIx) : List PortIx :=
  [last + 1, last + 2, last + 3, last + 4, last + 5, last]

/-- The port whose head report the engine takes, and that report: the first queue in round robin order that holds a
report (R64). -/
def nextReport (s : State) : Option (PortIx × Report) :=
  (searchOrder s.engine.lastServed).findSome? fun ix => (s.ports[ix].queue.head?).map fun r => (ix, r)

/-- Step 1: the report leaves the head of its port's queue and the port becomes the port last served (R65, R64). -/
def popReport (ix : PortIx) (s : State) : State :=
  (s.setPort ix { s.ports[ix] with queue := s.ports[ix].queue.tail }).setEngine
    { s.engine with lastServed := ix }

/-- Whether the engine's order of work sources comes to the report feed: in RUN, no engine command pending, no job
ANSWERED (R63). -/
def State.reportsOpen (s : State) : Bool :=
  s.engine.mode == .run && !s.engineCommandPending && s.sched.answered.isEmpty

/-- One report taken, where the report feed is open and a queue holds one (R63, R66). -/
def takeReport (s : State) : State :=
  if s.reportsOpen then
    match nextReport s with
    | some (ix, rep) => judgeReport ix rep (popReport ix s)
    | none => s
  else s

/-- TAKE_REPORT (R66). -/
def execTakeReport (s : State) : Host.Outcome State Fault Refusal := .next (whenRunning takeReport s)

end Sys2Proof.Machine
end

