-- ==== Sys2Proof/Machine/Resets.lean ====
section
/-! DEFINITION. The reset inputs: power-on reset, the assertion of warm reset, and the end-of-warm-reset steps with their checks of the retained set (chapter 9 and the reset rules of every chapter). -/

namespace Sys2Proof.Machine

/-! ## Power-on reset -/

/-- The part at its power-on values, its inputs as given and its queue of commands kept (R32, R33, R39, R54, R75, R102,
R125, R141, R153, R170, R175). -/
def powerOnValues (r : ResetInputs) (s : State) : State :=
  { State.reset with resets := r, pending := s.pending }

/-- The assertion of PORST: every block is held at its power-on values; a warm reset in progress ends without its steps
(R54, R155). -/
def assertPorst (s : State) : State :=
  powerOnValues { porst := true, wrst := s.resets.wrst, warm := false } s

/-- PORST_ASSERT (R54). -/
def execPorstAssert (s : State) : Host.Outcome State Fault Refusal := .next (assertPorst s)

/-- The release of PORST (R54, R153). -/
def releasePorst (s : State) : State := s.setResets { s.resets with porst := false }

/-- PORST_RELEASE (R153). -/
def execPorstRelease (s : State) : Host.Outcome State Fault Refusal := .next (releasePorst s)

/-! ## The assertion of warm reset -/

/-- The engine after the assertion of WRST: CONFIG, port last served 5, the region state fields at their reset values;
tables, memories, ranges and policies are retained (R76, R39, R50). -/
def Engine.warmReset (e : Engine) : Engine :=
  { e with
    mode := .config
    lastServed := 5
    regions := Vector.ofFn fun i => { e.regions[i] with counts := .atReset } }

/-- The escalation unit after the assertion of WRST: CLEAR, no hold deadline, before-reset set, the causes kept (R154). -/
def Escalation.warmReset (e : Escalation) : Escalation :=
  { e with mode := .clear, holdDeadline := none, beforeReset := true }

/-- The assertion of WRST at a part that is not held: traffic state takes its reset values (R76, R102, R125, R141, R154,
R155, R175); the time base goes on (R54). -/
def startWarmReset (s : State) : State :=
  { s with
    engine := s.engine.warmReset
    ports := Vector.replicate 6 .atReset
    sched := .atReset
    notices := .atReset
    esc := s.esc.warmReset
    win := .atReset s.win.settings
    resets := { porst := false, wrst := true, warm := true } }

/-- The assertion of WRST. While PORST is asserted it only changes the input: there is nothing retained that it could
keep (R155). -/
def assertWrst (s : State) : State :=
  if s.resets.wrst then s
  else if s.resets.porst then s.setResets { s.resets with wrst := true }
  else startWarmReset s

/-- WRST_ASSERT (R155). -/
def execWrstAssert (s : State) : Host.Outcome State Fault Refusal := .next (assertWrst s)

/-! ## The checks of the retained set -/

/-- A disturbance: the codes of the entries it names no longer agree with their contents (section 9.1). -/
def RecordCore.disturbed (hit : Bool) (c : RecordCore) : RecordCore :=
  { c with codeAgrees := c.codeAgrees && !hit }

/-- The engine's retained entries after a disturbance (section 9.1). -/
def Engine.disturbed (d : Disturbance) (e : Engine) : Engine :=
  { e with
    memories := Vector.ofFn fun i =>
      { e.memories[i] with codeAgrees := e.memories[i].codeAgrees && !d.memories.getLsbD i.val }
    cTable := Vector.ofFn fun i =>
      e.cTable[i].map fun r => { r with core := r.core.disturbed (d.cRecords.getLsbD i.val) }
    sTable := Vector.ofFn fun i =>
      e.sTable[i].map fun r => { r with core := r.core.disturbed (d.sRecords.getLsbD i.val) }
    regions := Vector.ofFn fun i =>
      { e.regions[i] with codeAgrees := e.regions[i].codeAgrees && !d.regions.getLsbD i.val } }

/-- Whether a record is kept by steps 1 and 2: its memory entry's code agrees, and its own (R158, R159). -/
def recordKept (e : Engine) (c : RecordCore) : Bool := e.memories[c.key.mem].codeAgrees && c.codeAgrees

/-- The failing memory entries (R158). -/
def failingMemories (e : Engine) : Nat := e.memories.toList.countP fun m => !m.codeAgrees

/-- The failing region entries (R160). -/
def failingRegions (e : Engine) : Nat := e.regions.toList.countP fun r => !r.codeAgrees

/-- The records that steps 1 and 2 drop (R158, R159). -/
def droppedRecords (e : Engine) : Nat :=
  (e.cRecords.countP fun r => !recordKept e r.core) + e.sRecords.countP fun r => !recordKept e r.core

/-- Steps 1 and 2: failing memory entries return to their power-on values; records of failing memories, and records
whose own code fails, are dropped (R158, R159). -/
def Engine.checkedRecords (e : Engine) : Engine :=
  { e with
    memories := Vector.ofFn fun i => if e.memories[i].codeAgrees then e.memories[i] else .powerOn
    cTable := Vector.ofFn fun i => e.cTable[i].filter fun r => recordKept e r.core
    sTable := Vector.ofFn fun i => e.sTable[i].filter fun r => recordKept e r.core }

/-- Step 3 for the regions: a failing entry returns to the values of Table 2-4 (R160). -/
def Engine.checkedRegions (e : Engine) : Engine :=
  { e with
    ranges := Vector.ofFn fun i => if e.regions[i.castSucc].codeAgrees then e.ranges[i] else .powerOn
    regions := Vector.ofFn fun i => if e.regions[i].codeAgrees then e.regions[i] else .powerOn }

/-- Step 3 for the settings store (R160). -/
def Settings.checked (t : Settings) : Settings := if t.codeAgrees then t else .powerOn

/-- Step 4 for one C-record: SUSPECT becomes COUNTING without a hard reason; the version stays (R161). -/
def CRecord.adjusted (r : CRecord) : CRecord :=
  match r.mode with
  | .suspect => { r with mode := .counting, hardReason := none, core := r.core.recoded }
  | .counting | .hard | .unverified => r

/-- Step 4: records adjusted, the pinned count formed again, the C-full notice flag re-armed (R161). -/
def Engine.adjusted (e : Engine) : Engine :=
  { e with
    cTable := Vector.ofFn fun i => e.cTable[i].map CRecord.adjusted
    pinnedCount := e.cRecords.countP fun r => r.pinned
    cFullArmed := true }

/-- The entries that fail the checks of steps 1 to 3 (R162). -/
def failingEntries (s : State) : Nat :=
  failingMemories s.engine + droppedRecords s.engine + failingRegions s.engine +
    (!s.win.settings.codeAgrees).toNat

/-- The records kept in both tables (R162). -/
def keptRecords (e : Engine) : Nat := e.cRecords.length + e.sRecords.length

/-- Steps 1 to 4 (R157). -/
def checkRetained (s : State) : State :=
  { s with
    engine := s.engine.checkedRecords.checkedRegions.adjusted
    win := { s.win with settings := s.win.settings.checked } }

/-- Step 5: RESUMED with the records kept and, where any entry failed, RETENTION_LOST with their number (R162). -/
def postOutcome (failing : Nat) (s : State) : State :=
  let s' := post (.resumed (BitVec.ofNat 8 (keptRecords s.engine))) false s
  if failing = 0 then s' else post (.retentionLost (BitVec.ofNat 8 failing)) false s'

/-- The retained set as the disturbance left it. An altered settings entry is known only by its code: until the release,
ticks take the divisor that the entry held before the alteration (log entry 6). -/
def disturbRetained (d : Disturbance) (s : State) : State :=
  { s with
    engine := s.engine.disturbed d
    win := { s.win with
      settings := { s.win.settings with codeAgrees := s.win.settings.codeAgrees && !d.settings } } }

/-- The end-of-warm-reset steps on the retained set as it stands at the release (R157). -/
def endSteps (s : State) : State := postOutcome (failingEntries s) (checkRetained s)

/-- The release of WRST. The steps are carried out where a warm reset is in progress; where PORST was asserted meanwhile,
no check is made and no notice posted (R157, R155). -/
def releaseWrst (d : Disturbance) (s : State) : State :=
  let r : ResetInputs := { s.resets with wrst := false, warm := false }
  if s.resets.wrst && s.resets.warm && !s.resets.porst then
    endSteps (disturbRetained d (s.setResets r))
  else s.setResets r

/-- END_OF_WARM_RESET (R157). -/
def execEndOfWarmReset (d : Disturbance) (s : State) : Host.Outcome State Fault Refusal :=
  .next (releaseWrst d s)

end Sys2Proof.Machine
end

