-- ==== Sys2Proof/Machine/Verify.lean ====
section
/-! DEFINITION. Verification: the scheduler's decisions, the ports' takes of its hand-overs, the verify deadline, and the application of answers (chapter 6, section 5.6). -/

namespace Sys2Proof.Machine

/-! ## Applying answers -/

/-- Whether a CLEAN answer reaches the soft limit of the record's region (R118). -/
def softLimitReached (limit soft : BitVec 4) : Bool := limit != 0 && limit ≤ soft

/-- The record after a CLEAN answer (R118). -/
def CRecord.clean (r : CRecord) (limit : BitVec 4) : CRecord :=
  let soft := satInc r.softVerdicts
  { r with
    core := r.core.advanced
    hitsSinceVerdict := 0
    softVerdicts := soft
    lastVerdict := .clean
    mode := if softLimitReached limit soft then .hard else .counting
    hardReason := if softLimitReached limit soft then some .repeatedSoft else none }

/-- A CLEAN answer applied (R118). -/
def applyClean (slot : CSlot) (r : CRecord) (s : State) : State :=
  let r' := r.clean (s.policy r.core.region).softLimit
  let s' := (removeJob slot s).putC slot r'
  if r'.mode = .hard then post (.hard (.c slot) r'.core.version r'.core.key r'.core.region) false s' else s'

/-- The record after a PERSISTS answer (R119). -/
def CRecord.persists (r : CRecord) : CRecord :=
  { r with core := r.core.advanced, mode := .hard, hardReason := some .persists, lastVerdict := .persists }

/-- A PERSISTS answer applied (R119). -/
def applyPersists (slot : CSlot) (r : CRecord) (s : State) : State :=
  let r' := r.persists
  post (.hard (.c slot) r'.core.version r'.core.key r'.core.region) false
    ((removeJob slot s).putC slot r')

/-- The record after its verification is exhausted (R120). -/
def CRecord.exhausted (r : CRecord) : CRecord :=
  { r with
    core := r.core.advanced, mode := .unverified, hardReason := none, lastVerdict := .exhausted
    hitsSinceVerdict := 0 }

/-- A FAILED answer applied: the job is requeued below the retry limit, and the record UNVERIFIED at it (R120). -/
def applyFailed (slot : CSlot) (j : Job) (r : CRecord) (s : State) : State :=
  if j.attempts.toNat + 1 < s.win.settings.retryLimit.toNat then
    let s' := removeJob slot s
    s'.setJobs (insertTail { j with attempts := j.attempts + 1, mode := .queued none } s'.sched.jobs)
  else
    let r' := r.exhausted
    post (.verifyFailed (.c slot) r'.core.version r'.core.key r'.core.region) false
      ((removeJob slot s).putC slot r')

/-- An answer applied to the record of its job (R117). -/
def applyAnswer (slot : CSlot) (j : Job) (r : CRecord) (a : Answer) (s : State) : State :=
  match a with
  | .clean => applyClean slot r s
  | .persists => applyPersists slot r s
  | .failed => applyFailed slot j r s

/-- The oldest ANSWERED job and its record: the job's answer, and the record in its C slot; none where either is missing
(R63, R103). -/
def answeredAt (slot : CSlot) (s : State) : Option (Job × CRecord × Answer) :=
  match jobFor slot s.sched.jobs, s.engine.cTable[slot] with
  | some j, some r =>
    match j.mode with
    | .answered _ _ a => some (j, r, a)
    | _ => none
  | _, _ => none

/-- TAKE_ANSWERED_JOB (R117): the oldest ANSWERED job, where no engine command is pending (R63). -/
def execTakeAnsweredJob (s : State) : Host.Outcome State Fault Refusal :=
  if s.held || s.engineCommandPending then .next s
  else
    match s.sched.answered with
    | [] => .next s
    | slot :: _ =>
      match answeredAt slot s with
      | some (j, r, a) => .next (applyAnswer slot j r a s)
      | none => .fault .answeredJobWithoutRecord

/-! ## VERIFY_RECORD -/

/-- A QUEUED NORMAL job moved to the tail of the URGENT class, with its attempts and any offer (R122). -/
def raiseJob (j : Job) (s : State) : State :=
  s.setJobs (insertTail { j with cls := .urgent } (withoutJob j.slot s.sched.jobs))

/-- VERIFY_RECORD on a SUSPECT record (R122). -/
def verifySuspect (slot : CSlot) (s : State) : Host.Outcome State Fault Refusal :=
  match jobFor slot s.sched.jobs with
  | none => .fault .suspectWithoutJob
  | some j =>
    match j.mode, j.cls with
    | .queued _, .normal => .next (complete .ok none (raiseJob j s))
    | _, _ => .next (complete .already none s)

/-- VERIFY_RECORD on a C-record (R122). -/
def verifyC (slot : CSlot) (r : CRecord) (s : State) : Host.Outcome State Fault Refusal :=
  match r.mode with
  | .suspect => verifySuspect slot s
  | .counting | .unverified | .hard =>
    if s.queueRoom then
      .next (complete .ok none (enterJob slot { r with core := r.core.advanced } .urgent s))
    else .next (complete .full none s)

/-- VERIFY_RECORD carried out (R122, R24). -/
def verifyRecord (s : State) : Host.Outcome State Fault Refusal :=
  match namedRecord s with
  | some (.c slot) =>
    match s.engine.cTable[slot] with
    | some r => verifyC slot r s
    | none => .next (complete .notFound none s)
  | _ => .next (complete .badParam none s)

/-- VERIFY_RECORD (R122). -/
def execVerifyRecord (s : State) : Host.Outcome State Fault Refusal :=
  if !s.held && s.isPending .verifyRecord .engine then verifyRecord s else .next s

/-! ## The scheduler's decisions -/

/-- The tags of the cancel requests handed to a port whose outcomes are not yet taken: those not yet taken by the port
(R107). -/
def cancelTags (ix : PortIx) (s : State) : List Tag :=
  s.sched.handovers[ix].filterMap fun h =>
    match h with
    | .cancel t => some t
    | .dispatch _ _ _ _ => none

/-- Whether a port is free for the scheduler, by the three conditions of R107. -/
def portFree (ix : PortIx) (s : State) : Bool :=
  s.ports[ix].mode == .ready &&
    s.ports[ix].outstanding.all (fun t => (cancelTags ix s).contains t) &&
    !s.sched.jobs.any (Job.offeredTo ix)

/-- Whether a port has still to take a dispatch, its job withdrawn meanwhile or not: until then no other job is offered to
the port (R108). -/
def dispatchUntaken (ix : PortIx) (s : State) : Bool := s.sched.handovers[ix].any Handover.isDispatch

/-- Whether a port owns the memory of a job's record (R108). -/
def ownsJob (ix : PortIx) (s : State) (j : Job) : Bool :=
  s.engine.memories[j.key.mem].owner == some ix

/-- The job the scheduler dispatches to a port: in RUN, for a free port that has taken every dispatch handed to it, the
first QUEUED job with no offer whose memory the port owns (R108). -/
def dispatchJob (ix : PortIx) (s : State) : Option Job :=
  if s.engine.mode == .run && portFree ix s && !dispatchUntaken ix s then
    s.sched.jobs.find? fun j => j.waiting && ownsJob ix s j
  else none

/-- The offer of a job to a port: a tag is drawn, the counter advances, and a dispatch that names the job is handed
(R108, R93). -/
def offerJob (ix : PortIx) (j : Job) (s : State) : State :=
  let tag := s.sched.tagCounters[ix]
  let e := s.engine.memories[j.key.mem]
  handOver ix (.dispatch j.id tag j.key.mem (granuleAddr e j.key.granule))
    (s.setSched
      { s.sched with
        jobs := replaceJob { j with mode := .queued (some (ix, tag)) } s.sched.jobs
        tagCounters := s.sched.tagCounters.set ix.val (tag + 1) })

/-- The scheduler's dispatch decision for one port (R108). -/
def dispatchTo (ix : PortIx) (s : State) : State :=
  match dispatchJob ix s with
  | some j => offerJob ix j s
  | none => s

/-- DISPATCH (R108). -/
def execDispatch (ix : PortIx) (s : State) : Host.Outcome State Fault Refusal :=
  .next (whenRunning (dispatchTo ix) s)

/-- A job marked cancel requested, its deadline absent, with the cancel request handed to its port (R112, R114). -/
def cancelJob (j : Job) (reason : CancelReason) (s : State) : State :=
  match j.mode with
  | .inFlight port tag _ _ =>
    handOver port (.cancel tag)
      (s.setJobs (replaceJob { j with mode := .inFlight port tag none (some reason) } s.sched.jobs))
  | _ => s

/-- Whether an URGENT job waits for a port and none is there already (R114). -/
def urgentWaits (ix : PortIx) (s : State) : Bool :=
  s.sched.jobs.any (fun j => j.urgent && j.waiting && ownsJob ix s j) &&
    !s.sched.jobs.any (fun j => j.urgent && (j.flyingOn ix || j.offeredTo ix))

/-- The NORMAL job the scheduler preempts on a port, in RUN (R114). -/
def preemptJob (ix : PortIx) (s : State) : Option Job :=
  if s.engine.mode == .run && urgentWaits ix s then
    s.sched.jobs.find? fun j => !j.urgent && j.uncancelledOn ix
  else none

/-- The scheduler's preemption decision for one port (R114). -/
def preemptOn (ix : PortIx) (s : State) : State :=
  match preemptJob ix s with
  | some j => cancelJob j .preempted s
  | none => s

/-- PREEMPT (R114). -/
def execPreempt (ix : PortIx) (s : State) : Host.Outcome State Fault Refusal :=
  .next (whenRunning (preemptOn ix) s)

/-- The verify deadline a job holds: only IN_FLIGHT jobs hold one (R103). -/
def Job.deadline (j : Job) : Option Stamp :=
  match j.mode with
  | .inFlight _ _ d _ => d
  | _ => none

/-- The reach of the verify deadline of the job for a C slot (R112). -/
def timeoutJob (slot : CSlot) (s : State) : State :=
  match jobFor slot s.sched.jobs with
  | some j => if reachedOpt s.time.stamp j.deadline then cancelJob j .timedOut s else s
  | none => s

/-- VERIFY_TIMEOUT (R112). -/
def execVerifyTimeout (slot : CSlot) (s : State) : Host.Outcome State Fault Refusal :=
  .next (whenRunning (timeoutJob slot) s)

/-! ## The ports' takes of hand-overs -/

/-- The hand-over at the head of a port's list removed (R110). -/
def popHandover (ix : PortIx) (s : State) : State :=
  s.setSched
    { s.sched with handovers := s.sched.handovers.set ix.val s.sched.handovers[ix].tail }

/-- The job named in a dispatch, offered with its port and tag, becomes IN_FLIGHT, its verify deadline armed; where that
job is no longer in the queue none does (R109, R110; log entry 22). -/
def flyJob (id : Nat) (ix : PortIx) (tag : Tag) (s : State) : State :=
  match s.sched.jobs.find? (Job.offeredAs id ix tag) with
  | some j =>
    s.setJobs
      (replaceJob
        { j with mode := .inFlight ix tag (some (armed s.time.stamp s.win.settings.verifyTimeout)) none }
        s.sched.jobs)
  | none => s

/-- A refused dispatch: the offer of the job it names is dropped and the job keeps its place; where that job is no longer
in the queue nothing changes (R109, R110; log entry 22). -/
def refuseOffer (id : Nat) (ix : PortIx) (tag : Tag) (s : State) : State :=
  match s.sched.jobs.find? (Job.offeredAs id ix tag) with
  | some j => s.setJobs (replaceJob { j with mode := .queued none } s.sched.jobs)
  | none => s

/-- A port takes a dispatch: free, it holds the tag and sends VERIFY; otherwise it refuses (R93, R109). -/
def takeDispatchOf (id : Nat) (ix : PortIx) (tag : Tag) (mem : MemId) (addr : BitVec 32) (s : State) : State :=
  let p := s.ports[ix]
  if p.mode = .ready ∧ p.outstanding = none then
    flyJob id ix tag
      (s.setPort ix (({ p with outstanding := some tag } : Port).produce (.verify tag mem addr)))
  else refuseOffer id ix tag s

/-- The take of the head hand-over of a port, where it is a dispatch (R110). -/
def takeDispatch (ix : PortIx) (s : State) : State :=
  match s.sched.handovers[ix].head? with
  | some (.dispatch id tag mem addr) => takeDispatchOf id ix tag mem addr (popHandover ix s)
  | _ => s

/-- TAKE_DISPATCH (R109). -/
def execTakeDispatch (ix : PortIx) (s : State) : Host.Outcome State Fault Refusal :=
  .next (whenRunning (takeDispatch ix) s)

/-- The cancel outcome of a tag that was outstanding (R113). The table of R113 has no row for a job with no cancel
requested: it leaves IN_FLIGHT in the happening that clears its tag (R110), charged no attempt. DEDUCED. -/
def cancelOutcome (ix : PortIx) (tag : Tag) (s : State) : State :=
  match s.sched.jobs.find? (Job.inFlightOn ix tag) with
  | none => s
  | some j =>
    match j.mode with
    | .inFlight _ _ _ (some .timedOut) => answerJob j ix tag .failed s
    | .inFlight _ _ _ (some .preempted) | .inFlight _ _ _ none => returnToHead j s
    | .queued _ | .answered _ _ _ => s

/-- A port takes a cancel request: an outstanding tag is cleared and CANCEL sent; any other tag changes nothing (R94). -/
def takeCancelOf (ix : PortIx) (tag : Tag) (s : State) : State :=
  let p := s.ports[ix]
  if p.outstanding = some tag then
    cancelOutcome ix tag
      (s.setPort ix (({ p with outstanding := none } : Port).produce (.cancel tag)))
  else s

/-- The take of the head hand-over of a port, where it is a cancel request (R110). -/
def takeCancel (ix : PortIx) (s : State) : State :=
  match s.sched.handovers[ix].head? with
  | some (.cancel tag) => takeCancelOf ix tag (popHandover ix s)
  | _ => s

/-- CANCEL_REQUEST (R94). -/
def execCancelRequest (ix : PortIx) (s : State) : Host.Outcome State Fault Refusal :=
  .next (whenRunning (takeCancel ix) s)

end Sys2Proof.Machine
end

