-- ==== Sys2Proof/Machine/Window.lean ====
section
/-! DEFINITION. The host window: writes of COMMAND, CONTROL and the other registers, the read of STAMP_LO, SET_TIMING and READ_TIMING, and ticks (chapters 3 and 10). -/

namespace Sys2Proof.Machine

/-! ## The settings store -/

/-- The settings that PARAM0 to PARAM5 give, where they pass check 2 of SET_TIMING (R171). -/
def timingParams (s : State) : Option Settings :=
  if 1 ≤ (s.param 1).toNat ∧ (s.param 1).toNat ≤ 4095 ∧ 1 ≤ (s.param 2).toNat ∧ (s.param 2).toNat ≤ 7 ∧
      1 ≤ (s.param 3).toNat ∧ (s.param 3).toNat ≤ 255 ∧ s.param 4 ≠ 0 then
    some { divisorLessOne := s.param 0, verifyTimeout := (s.param 1).extractLsb' 0 12,
           retryLimit := (s.param 2).extractLsb' 0 3, frameTimeout := lowByte (s.param 3),
           ackWindow := s.param 4, faultHold := s.param 5, codeAgrees := true }
  else none

/-- SET_TIMING carried out within the accepting access (R171). -/
def setTiming (s : State) : State :=
  match s.engine.mode with
  | .run => complete .refusedState none s
  | .config =>
    match timingParams s with
    | none => complete .badParam none s
    | some t => complete .ok none (s.setWin { s.win with settings := t })

/-- READ_TIMING carried out within the accepting access (R173). -/
def readTiming (s : State) : State := complete .ok (some (viewTiming s.win.settings)) s

/-! ## Writes of COMMAND -/

/-- What the window does at every acceptance: the code reads back, and the overrun and completion-unseen indications are
cleared (R165). -/
def acceptCode (code : Word) (s : State) : State :=
  s.setWin { s.win with code := code, overrun := false, unseen := false }

/-- A command made pending with its owner; the command state is BUSY (R165). -/
def makePending (c : Command) (o : Owner) (s : State) : State :=
  s.setWin { s.win with cmdState := .busy, command := some ⟨c, o⟩ }

/-- A known command accepted: a port command is routed by PARAM0, a timing command is carried out within the access, and
every other goes to the owner of its code (R165, R167, R96). -/
def acceptCommand (c : Command) (s : State) : State :=
  if c.toPort then
    match wordBelow 6 (s.param 0) with
    | some ix => makePending c (.port ix) s
    | none => complete .badParam none s
  else
    match c with
    | .setTiming => setTiming s
    | .readTiming => readTiming s
    | _ => makePending c c.fixedOwner s

/-- A host write to COMMAND, by the command state (R165, R166). -/
def writeCommand (code : Word) (s : State) : State :=
  match s.win.cmdState with
  | .busy => s.setWin { s.win with overrun := true }
  | .idle | .done =>
    match commandOf code with
    | some c => acceptCommand c (acceptCode code s)
    | none => complete .badParam none (acceptCode code s)

/-- COMMAND_ACCEPTED (R165). -/
def execCommandAccepted (code : Word) (s : State) : Host.Outcome State Fault Refusal :=
  .next (whenRunning (writeCommand code) s)

/-- UNKNOWN_COMMAND (R165). -/
def execUnknownCommand (code : Word) (s : State) : Host.Outcome State Fault Refusal :=
  .next (whenRunning (writeCommand code) s)

/-- COMMAND_OVERRUN (R166). -/
def execCommandOverrun (code : Word) (s : State) : Host.Outcome State Fault Refusal :=
  .next (whenRunning (writeCommand code) s)

/-- SET_TIMING: a host write of its code, 17h, to COMMAND (R171, R167). -/
def execSetTiming (s : State) : Host.Outcome State Fault Refusal :=
  .next (whenRunning (writeCommand 0x17#16) s)

/-- READ_TIMING: a host write of its code, 18h, to COMMAND (R173, R167). -/
def execReadTiming (s : State) : Host.Outcome State Fault Refusal :=
  .next (whenRunning (writeCommand 0x18#16) s)

/-! ## Writes of CONTROL and of the other registers -/

/-- A host write to CONTROL: the two enables take the values written, and the seen bit clears the completion-unseen
indication (R174, R169). -/
def writeControl (word : Word) (s : State) : State :=
  s.setWin
    { s.win with
      noticeEnable := word.getLsbD 0
      commandEnable := word.getLsbD 1
      unseen := s.win.unseen && !word.getLsbD 2 }

/-- SET_INTERRUPT_ENABLES (R174). -/
def execSetInterruptEnables (word : Word) (s : State) : Host.Outcome State Fault Refusal :=
  .next (whenRunning (writeControl word) s)

/-- MARK_SEEN: a write to CONTROL whose seen bit is set; the operand gives the other bits (R169). -/
def execMarkSeen (word : Word) (s : State) : Host.Outcome State Fault Refusal :=
  .next (whenRunning (writeControl (word ||| 0x0004#16)) s)

/-- A host write at a word address: PARAM0 to PARAM5 take the word, CONTROL and COMMAND act as R174 and R165 state, and
every other register ignores it (R163, Table 11-3). -/
def writeRegister (addr : BitVec 5) (word : Word) (s : State) : State :=
  if addr = 0x03#5 then writeControl word s
  else if addr = 0x04#5 then writeCommand word s
  else if h : 5 ≤ addr.toNat ∧ addr.toNat < 11 then
    s.setWin { s.win with params := s.win.params.set (addr.toNat - 5) word }
  else s

/-- REGISTER_WRITE (R163). -/
def execRegisterWrite (addr : BitVec 5) (word : Word) (s : State) : Host.Outcome State Fault Refusal :=
  .next (whenRunning (writeRegister addr word) s)

/-! ## The stamp and the tick -/

/-- A host read of STAMP_LO: the low word is returned and the high word captured (R55). -/
def readStampLo (s : State) : State :=
  s.setWin { s.win with readData := lowWord s.time.stamp, stampHold := highWord s.time.stamp }

/-- STAMP_LO_READ (R55); while the part is held the read returns 0 and captures nothing (R155). -/
def execStampLoRead (s : State) : Host.Outcome State Fault Refusal :=
  .next (if s.held then s.setWin { s.win with readData := 0 } else readStampLo s)

/-- TICK (R52). -/
def execTick (s : State) : Host.Outcome State Fault Refusal := .next (tickOnce s)

end Sys2Proof.Machine
end

