-- ==== Sys2Proof/Machine/Dispatch.lean ====
section
/-! DEFINITION. exec: one arm for each command, a direct call of its meaning. -/

namespace Sys2Proof.Machine

def exec (i : Instr) (s : State) : Host.Outcome State Fault Refusal :=
  match i with
  | .takeReport => Sys2Proof.Machine.execTakeReport s
  | .takeAnsweredJob => Sys2Proof.Machine.execTakeAnsweredJob s
  | .enterConfig => Sys2Proof.Machine.execEnterConfig s
  | .leaveConfig => Sys2Proof.Machine.execLeaveConfig s
  | .setMemory => Sys2Proof.Machine.execSetMemory s
  | .readMemory => Sys2Proof.Machine.execReadMemory s
  | .setRegion => Sys2Proof.Machine.execSetRegion s
  | .readRegion => Sys2Proof.Machine.execReadRegion s
  | .unmuteRegion => Sys2Proof.Machine.execUnmuteRegion s
  | .fetchRecord => Sys2Proof.Machine.execFetchRecord s
  | .findRecord => Sys2Proof.Machine.execFindRecord s
  | .retireRecord => Sys2Proof.Machine.execRetireRecord s
  | .pinRecord => Sys2Proof.Machine.execPinRecord s
  | .unpinRecord => Sys2Proof.Machine.execUnpinRecord s
  | .settleRecord => Sys2Proof.Machine.execSettleRecord s
  | .clearTables => Sys2Proof.Machine.execClearTables s
  | .verifyRecord => Sys2Proof.Machine.execVerifyRecord s
  | .setPort => Sys2Proof.Machine.execSetPort s
  | .restartPort => Sys2Proof.Machine.execRestartPort s
  | .flushPort => Sys2Proof.Machine.execFlushPort s
  | .readPort => Sys2Proof.Machine.execReadPort s
  | .ackNotice => Sys2Proof.Machine.execAckNotice s
  | .clearFault => Sys2Proof.Machine.execClearFault s
  | .readReaction => Sys2Proof.Machine.execReadReaction s
  | .setTiming => Sys2Proof.Machine.execSetTiming s
  | .readTiming => Sys2Proof.Machine.execReadTiming s
  | .unknownCommand code => Sys2Proof.Machine.execUnknownCommand code s
  | .commandOverrun code => Sys2Proof.Machine.execCommandOverrun code s
  | .setInterruptEnables word => Sys2Proof.Machine.execSetInterruptEnables word s
  | .markSeen word => Sys2Proof.Machine.execMarkSeen word s
  | .stampLoRead => Sys2Proof.Machine.execStampLoRead s
  | .registerWrite addr word => Sys2Proof.Machine.execRegisterWrite addr word s
  | .startDelimiter port period => Sys2Proof.Machine.execStartDelimiter port period s
  | .hello port next reporter => Sys2Proof.Machine.execHello port next reporter s
  | .report port frame => Sys2Proof.Machine.execReport port frame s
  | .verdict port tag result => Sys2Proof.Machine.execVerdict port tag result s
  | .badFrame port bits => Sys2Proof.Machine.execBadFrame port bits s
  | .frameTimeout port => Sys2Proof.Machine.execFrameTimeout port s
  | .longLowPeriod port period => Sys2Proof.Machine.execLongLowPeriod port period s
  | .outboundFrameSent port => Sys2Proof.Machine.execOutboundFrameSent port s
  | .dispatch port => Sys2Proof.Machine.execDispatch port s
  | .takeDispatch port => Sys2Proof.Machine.execTakeDispatch port s
  | .preempt port => Sys2Proof.Machine.execPreempt port s
  | .verifyTimeout slot => Sys2Proof.Machine.execVerifyTimeout slot s
  | .cancelRequest port => Sys2Proof.Machine.execCancelRequest port s
  | .noticeDeadline seq => Sys2Proof.Machine.execNoticeDeadline seq s
  | .faultHoldExpiry => Sys2Proof.Machine.execFaultHoldExpiry s
  | .decayDeadline region => Sys2Proof.Machine.execDecayDeadline region s
  | .tick => Sys2Proof.Machine.execTick s
  | .porstAssert => Sys2Proof.Machine.execPorstAssert s
  | .porstRelease => Sys2Proof.Machine.execPorstRelease s
  | .wrstAssert => Sys2Proof.Machine.execWrstAssert s
  | .endOfWarmReset disturbed => Sys2Proof.Machine.execEndOfWarmReset disturbed s
  | .commandAccepted code => Sys2Proof.Machine.execCommandAccepted code s

end Sys2Proof.Machine
end

