-- ==== Sys2Proof/Safety.lean ====
section
/-! DEFINITION. The laws that the guide says the part keeps, as predicates of a state, and the words that statements about takes of reports and commands use. -/

namespace Sys2Proof.Machine

/-! ## Hypotheses of a happening -/

/-- A command waits with its owner, and neither reset input is asserted: what it takes for the owner to take it (R165,
R167, R155). -/
def Waiting (c : Command) (o : Owner) (s : State) : Prop := s.held = false ∧ s.win.command = some ⟨c, o⟩

/-- The report feed is open and `ix` is the first port, in the search order that starts after the port last served,
whose queue holds a report; `rep` is the head of that queue (R63, R64). -/
def ReportDue (ix : PortIx) (rep : Report) (s : State) : Prop :=
  s.held = false ∧ s.engine.mode = .run ∧ s.sched.answered = [] ∧
    (∀ c, s.win.command ≠ some ⟨c, .engine⟩) ∧
    ∃ before after rest,
      searchOrder s.engine.lastServed = before ++ ix :: after ∧
        (∀ q ∈ before, s.ports[q].queue = []) ∧ s.ports[ix].queue = rep :: rest

/-- The report passes the ownership check with a key and a region (R35, R1, R40). -/
def Admitted (ix : PortIx) (rep : Report) (k : Key) (region : RegionIx) (s : State) : Prop :=
  s.engine.memories[rep.mem].owner = some ix ∧ k.mem = rep.mem ∧
    k.granule.toNat = rep.addr.toNat / s.engine.memories[rep.mem].granuleSize.bytes ∧
    k.granule.toNat < s.engine.memories[rep.mem].size ∧ region = s.lookupRegion k

/-- The state of the engine's side after the first six steps of taking a report: the report has left its queue, the port
is the port last served, and the region's accepted counter has risen (R64, R65, R66). -/
def acceptedReport (ix : PortIx) (region : RegionIx) (s : State) : State :=
  countAccepted region (popReport ix s)

/-- No record of either table holds a key (R2). -/
def KeyAbsent (k : Key) (s : State) : Prop :=
  (∀ (i : CSlot) (r : CRecord), s.engine.cTable[i] = some r → r.core.key ≠ k) ∧ ∀ (i : SSlot) (r : SRecord), s.engine.sTable[i] = some r → r.core.key ≠ k

/-- The record in a C slot is the one that holds a key: the slot holds it, and no lower C slot and no S slot does. -/
def HeldInC (k : Key) (slot : CSlot) (r : CRecord) (s : State) : Prop :=
  s.engine.cTable[slot] = some r ∧ r.core.key = k ∧
    (∀ (i : CSlot) (r' : CRecord), i < slot → s.engine.cTable[i] = some r' → r'.core.key ≠ k) ∧
    ∀ (i : SSlot) (r' : SRecord), s.engine.sTable[i] = some r' → r'.core.key ≠ k

/-- The record in an S slot is the one that holds a key: the slot holds it, and no lower S slot does. -/
def HeldInS (k : Key) (slot : SSlot) (r : SRecord) (s : State) : Prop :=
  s.engine.sTable[slot] = some r ∧ r.core.key = k ∧
    ∀ (i : SSlot) (r' : SRecord), i < slot → s.engine.sTable[i] = some r' → r'.core.key ≠ k

/-- A C slot is the lowest free one (R2). -/
def LowestFreeC (slot : CSlot) (s : State) : Prop :=
  s.engine.cTable[slot] = none ∧ ∀ i : CSlot, i < slot → s.engine.cTable[i] ≠ none

/-- An S slot is the lowest free one (R2). -/
def LowestFreeS (slot : SSlot) (s : State) : Prop :=
  s.engine.sTable[slot] = none ∧ ∀ i : SSlot, i < slot → s.engine.sTable[i] ≠ none

/-- A memory id appears in a record of either table or in a job (R36, check 6). -/
def MemoryNamed (m : MemId) (s : State) : Prop :=
  (∃ (i : CSlot) (r : CRecord), s.engine.cTable[i] = some r ∧ r.core.key.mem = m) ∨
    (∃ (i : SSlot) (r : SRecord), s.engine.sTable[i] = some r ∧ r.core.key.mem = m) ∨
    ∃ j ∈ s.sched.jobs, j.key.mem = m

/-- A job stands in the verify queue between `before` and `after`, and is the one job of its C slot (R104). -/
def JobAt (before : List Job) (j : Job) (after : List Job) (s : State) : Prop :=
  s.sched.jobs = before ++ j :: after ∧ ∀ k ∈ before ++ after, k.slot ≠ j.slot

/-- No engine command is pending, and the oldest ANSWERED job, with its answer and its record, is the one named (R63,
R117). -/
def AnswerDue (before : List Job) (j : Job) (after : List Job) (rest : List CSlot) (r : CRecord) (a : Answer)
    (s : State) : Prop :=
  s.held = false ∧ (∀ c, s.win.command ≠ some ⟨c, .engine⟩) ∧ s.sched.answered = j.slot :: rest ∧ j.slot ∉ rest ∧
    JobAt before j after s ∧ (∃ port tag, j.mode = .answered port tag a) ∧ s.engine.cTable[j.slot] = some r

/-- A port has a frame under reception in a port state, and neither reset input is asserted (R80). -/
def Receiving (ix : PortIx) (m : PortMode) (s : State) : Prop :=
  s.held = false ∧ s.ports[ix].rx ≠ none ∧ s.ports[ix].mode = m

/-- The state with a C-record in a slot. -/
def State.withC (s : State) (slot : CSlot) (r : CRecord) : State :=
  { s with engine := { s.engine with cTable := s.engine.cTable.set slot.val (some r) } }

/-- The state with an S-record in a slot. -/
def State.withS (s : State) (slot : SSlot) (r : SRecord) : State :=
  { s with engine := { s.engine with sTable := s.engine.sTable.set slot.val (some r) } }

/-- The state with one port replaced. -/
def State.withPort (s : State) (ix : PortIx) (p : Port) : State := { s with ports := s.ports.set ix.val p }

/-- The state with the state fields of one region replaced. -/
def State.withCounts (s : State) (ix : RegionIx) (c : RegionCounts) : State :=
  { s with
    engine := { s.engine with
      regions := s.engine.regions.set ix.val { s.engine.regions[ix] with counts := c } } }

/-- The state with the jobs of the verify queue replaced. -/
def State.withJobs (s : State) (jobs : List Job) : State := { s with sched := { s.sched with jobs := jobs } }

/-- The state with the jobs of the verify queue replaced by jobs of which one is new: the next job takes the next name
(log entry 22). -/
def State.withNewJobs (s : State) (jobs : List Job) : State :=
  { s with sched := { s.sched with jobs := jobs, nextJob := s.sched.nextJob + 1 } }

/-- The state with a hand-over placed behind those already handed to a port (R110). -/
def State.withHandover (s : State) (ix : PortIx) (h : Handover) : State :=
  { s with
    sched := { s.sched with handovers := s.sched.handovers.set ix.val (s.sched.handovers[ix] ++ [h]) } }

/-- Whether the threshold check of a record enters a job: COUNTING or UNVERIFIED, hits since verdict at the threshold of
its region, verify enable set, and fewer than 8 jobs queued (R14). -/
def EntersJob (r : CRecord) (s : State) : Prop :=
  (r.mode = .counting ∨ r.mode = .unverified) ∧
    (s.engine.regions[r.core.region].policy.threshold.toNat ≤ r.hitsSinceVerdict.toNat) ∧
    s.engine.regions[r.core.region].policy.verifyEnable = true ∧ s.sched.jobs.length < 8

/-- `t` is the state after a C-record is written into a slot and its threshold check made: either the record is SUSPECT
and a NORMAL job for it stands at the tail of the queue, or the record alone is written (R14, R106). -/
def CheckedInto (slot : CSlot) (r : CRecord) (s t : State) : Prop :=
  (EntersJob r s → t = (s.withC slot { r with mode := .suspect }).withNewJobs
    (s.sched.jobs ++ [{ id := s.sched.nextJob, slot := slot, key := r.core.key, cls := .normal, attempts := 0
                        mode := .queued none }])) ∧
  (¬ EntersJob r s → t = s.withC slot r)

/-! ## Laws of the state -/

/-- The queues stay within their capacities (R87, R104, R128). -/
def QueuesBounded (s : State) : Prop :=
  (∀ ix : PortIx, s.ports[ix].queue.length ≤ 4) ∧ s.sched.jobs.length ≤ 8 ∧ s.notices.entries.length ≤ 16

/-- The sequence numbers of the queued notices rise by one to the number before the next (R128). -/
def NoticesNumbered (q : NoticeQueue) : Prop :=
  ∀ (k : Nat) (h : k < q.entries.length), q.entries[k].seq = q.nextSeq - BitVec.ofNat 16 (q.entries.length - k)

/-- A notice with its expired flag set is queued only in FAULT or RESET_PENDING (R139). -/
def ExpiredEscalated (s : State) : Prop :=
  ∀ n ∈ s.notices.entries, n.expired = true → s.esc.mode ≠ .clear

/-- The laws of the notice queue and of the escalation unit it feeds (R128, R139). -/
def NoticesLawful (s : State) : Prop := NoticesNumbered s.notices ∧ ExpiredEscalated s

/-- The bits of the severe kinds in kinds seen (Table 0-2, Table 11-6). -/
def severeKinds : BitVec 5 := 0b11000#5

/-- A C-record has only correctable kinds, at least one hit, and no more hits since verdict than hits (R3, R4). -/
def CRecord.lawful (r : CRecord) : Prop :=
  1 ≤ r.core.hits ∧ r.hitsSinceVerdict ≤ r.core.hits ∧ r.core.kinds &&& severeKinds = 0

/-- An S-record has at least one severe kind and at least one hit (R3, R4). -/
def SRecord.lawful (r : SRecord) : Prop := 1 ≤ r.core.hits ∧ r.core.kinds &&& severeKinds ≠ 0

/-- Every record keeps the laws of its table (R3, R4). -/
def RecordsLawful (s : State) : Prop :=
  (∀ (i : CSlot) (r : CRecord), s.engine.cTable[i] = some r → r.lawful) ∧
    ∀ (i : SSlot) (r : SRecord), s.engine.sTable[i] = some r → r.lawful

/-- A key is held by at most one record across the two tables (R2). -/
def KeysUnique (s : State) : Prop :=
  (∀ (i j : CSlot) (r r' : CRecord), s.engine.cTable[i] = some r → s.engine.cTable[j] = some r' →
      r.core.key = r'.core.key → i = j) ∧
    (∀ (i j : SSlot) (r r' : SRecord), s.engine.sTable[i] = some r → s.engine.sTable[j] = some r' →
      r.core.key = r'.core.key → i = j) ∧
    ∀ (i : CSlot) (j : SSlot) (r : CRecord) (r' : SRecord), s.engine.cTable[i] = some r →
      s.engine.sTable[j] = some r' → r.core.key ≠ r'.core.key

/-- The pinned count is the number of pinned C-records, and at most 24 (R28). -/
def PinnedCounted (s : State) : Prop :=
  s.engine.pinnedCount = s.engine.cRecords.countP CRecord.pinned ∧ s.engine.pinnedCount ≤ 24

/-- Whether a job is ANSWERED. -/
def Job.isAnswered (j : Job) : Bool :=
  match j.mode with
  | .answered _ _ _ => true
  | _ => false

/-- Every job is for a SUSPECT C-record, no two for one record; outside a warm reset every SUSPECT record has its job;
the order of ANSWERED jobs names each of them once; and the queue is empty during a warm reset, which is in progress only
while WRST is asserted and PORST is not (R103, R104, R155). -/
def JobsMatchRecords (s : State) : Prop :=
  (s.sched.jobs.map Job.slot).Nodup ∧
    (∀ j ∈ s.sched.jobs, ∃ r, s.engine.cTable[j.slot] = some r ∧ r.core.key = j.key ∧ r.mode = .suspect) ∧
    (∀ (i : CSlot) (r : CRecord), s.engine.cTable[i] = some r → r.mode = .suspect → s.resets.warm = false →
      ∃ j ∈ s.sched.jobs, j.slot = i) ∧
    s.sched.answered.Nodup ∧
    (∀ slot, slot ∈ s.sched.answered ↔ ∃ j ∈ s.sched.jobs, j.slot = slot ∧ j.isAnswered) ∧
    (s.resets.warm = true → s.sched.jobs = [] ∧ s.resets.wrst = true ∧ s.resets.porst = false)

/-- All URGENT jobs stand ahead of all NORMAL jobs (R105). -/
def UrgentFirst (s : State) : Prop :=
  s.sched.jobs = s.sched.jobs.filter Job.urgent ++ s.sched.jobs.filter (fun j => !j.urgent)

/-- A job IN_FLIGHT on a port with a tag has that tag outstanding at the port, and a port holds a tag only in READY
(R93, R90). -/
def TagsHeld (s : State) : Prop :=
  (∀ j ∈ s.sched.jobs, ∀ ix tag d c, j.mode = .inFlight ix tag d c → s.ports[ix].outstanding = some tag) ∧
    ∀ ix : PortIx, s.ports[ix].outstanding ≠ none → s.ports[ix].mode = .ready

/-- No two jobs are IN_FLIGHT on one port (R93). -/
def OneInFlight (s : State) : Prop :=
  ∀ j ∈ s.sched.jobs, ∀ j' ∈ s.sched.jobs, ∀ ix : PortIx, j.flyingOn ix = true → j'.flyingOn ix = true → j = j'

/-- No two jobs have one name, and every name in a job, or in a dispatch not yet taken, is below the next one: a dispatch
never names a job that entered after it was handed (R93, log entry 22). -/
def JobsNamed (s : State) : Prop :=
  (s.sched.jobs.map Job.id).Nodup ∧ (∀ j ∈ s.sched.jobs, j.id < s.sched.nextJob) ∧
    ∀ ix : PortIx, ∀ id tag m a, Handover.dispatch id tag m a ∈ s.sched.handovers[ix] → id < s.sched.nextJob

/-- A port has at most one dispatch to take, and a job offered to it is the one that dispatch names, with its tag: no job
is offered while a dispatch of another, withdrawn or not, is still to be taken (R108, R109). -/
def OffersHanded (s : State) : Prop :=
  (∀ ix : PortIx, s.sched.handovers[ix].countP Handover.isDispatch ≤ 1) ∧
    ∀ j ∈ s.sched.jobs, ∀ ix tag, j.mode = .queued (some (ix, tag)) →
      ∃ m a, Handover.dispatch j.id tag m a ∈ s.sched.handovers[ix]

/-- The laws of verification (R93, R103, R104, R105, R108). -/
def JobsLawful (s : State) : Prop :=
  JobsMatchRecords s ∧ UrgentFirst s ∧ TagsHeld s ∧ OneInFlight s ∧ JobsNamed s ∧ OffersHanded s

/-- The integrity code of every retained entry agrees with its contents (R156). -/
def CodesAgree (s : State) : Prop :=
  (∀ (i : CSlot) (r : CRecord), s.engine.cTable[i] = some r → r.core.codeAgrees = true) ∧
    (∀ (i : SSlot) (r : SRecord), s.engine.sTable[i] = some r → r.core.codeAgrees = true) ∧
    (∀ m : MemId, s.engine.memories[m].codeAgrees = true) ∧
    (∀ ix : RegionIx, s.engine.regions[ix].codeAgrees = true) ∧ s.win.settings.codeAgrees = true

/-- Every memory id that appears in a record is owned by a port (R34). -/
def MemoriesOwned (s : State) : Prop :=
  (∀ (i : CSlot) (r : CRecord), s.engine.cTable[i] = some r → s.engine.memories[r.core.key.mem].owner ≠ none) ∧
    (∀ (i : SSlot) (r : SRecord), s.engine.sTable[i] = some r → s.engine.memories[r.core.key.mem].owner ≠ none)

/-- The laws of the retained set (R34, R156). -/
def RetainedLawful (s : State) : Prop := CodesAgree s ∧ MemoriesOwned s

/-- A region's burst state: the counter never exceeds the limit, the region is muted exactly when a limit other than 0 is
reached, and the decay deadline is present exactly while the counter is above 0 and the region is not muted (R43, R45). -/
def Region.lawful (r : Region) : Prop :=
  r.counts.burst ≤ r.policy.burstLimit ∧
    (r.counts.muted = true ↔ r.policy.burstLimit ≠ 0 ∧ r.counts.burst = r.policy.burstLimit) ∧
    (r.counts.decayDeadline ≠ none ↔ r.counts.burst ≠ 0 ∧ r.counts.muted = false)

/-- Every region keeps the laws of its burst state (R43, R45). -/
def RegionsLawful (s : State) : Prop := ∀ ix : RegionIx, s.engine.regions[ix].lawful

/-- Policy values and settings stay in their ranges (Tables 2-1, 2-3 and 10-4). -/
def PolicyInRange (s : State) : Prop :=
  (∀ m : MemId, 1 ≤ s.engine.memories[m].size ∧ s.engine.memories[m].size ≤ Config.maxGranules) ∧
    (∀ i : Fin 12, s.engine.ranges[i].base ≤ s.engine.ranges[i].limit) ∧
    (∀ ix : RegionIx, s.engine.regions[ix].policy.threshold ≠ 0 ∧ s.engine.regions[ix].policy.decayPeriod ≠ 0) ∧
    s.win.settings.verifyTimeout ≠ 0 ∧ s.win.settings.retryLimit ≠ 0 ∧ s.win.settings.frameTimeout ≠ 0 ∧
    s.win.settings.ackWindow ≠ 0

/-- The laws of the policy and timing values (R43, R45, R47, R170). -/
def PolicyLawful (s : State) : Prop := RegionsLawful s ∧ PolicyInRange s

/-- The command state is BUSY exactly while a command is pending, and the pending command is that of the code COMMAND
reads back (section 10.2, R165). -/
def WindowLawful (s : State) : Prop :=
  (s.win.cmdState = .busy ↔ s.win.command ≠ none) ∧
    ∀ c o, s.win.command = some ⟨c, o⟩ → commandOf s.win.code = some c

/-- The fault hold deadline is present only in FAULT; RESET_PENDING has a second cause, FAULT a first and no second; a
second cause left in CLEAR comes from before a warm reset (R145, R146, R148, R154). -/
def EscalationLawful (s : State) : Prop :=
  (s.esc.holdDeadline ≠ none → s.esc.mode = .fault) ∧ (s.esc.second ≠ none → s.esc.first ≠ none) ∧
    (s.esc.mode = .fault → s.esc.first ≠ none ∧ s.esc.second = none) ∧
    (s.esc.mode = .resetPending → s.esc.second ≠ none) ∧
    (s.esc.mode = .clear → s.esc.second ≠ none → s.esc.beforeReset = true)

/-- While a reset input is asserted, traffic state stands at its reset values and no command is pending (R102, R125, R141,
R154, R175); a warm reset is in progress only while WRST is asserted and PORST is not (R155). -/
def HeldAtReset (s : State) : Prop :=
  (s.held = true →
    s.ports = Vector.replicate 6 .atReset ∧ s.sched = .atReset ∧ s.notices = .atReset ∧
      s.win = .atReset s.win.settings ∧ s.esc.mode = .clear ∧ s.engine.mode = .config) ∧
    (s.resets.warm = true → s.resets.wrst = true ∧ s.resets.porst = false)

end Sys2Proof.Machine
end

