-- ==== Sys2Proof/Certificates/Slice0/Obligations.lean ====
section
/-! DEFINITION. The statements for the provers: what the commands do, the laws every step keeps, the frames. -/

open Sys2Proof Sys2Proof.Machine

/-- For every command c and every state whose queue of waiting commands is c followed by rest, step is exec of c on
the state with rest as its queue. The queue is the model's own (log entry 2). (section 0.6, opcode_table.json) -/
def Obligations.StepRunsFrontCommand : Prop :=
  ∀ (c : Instr) (rest : List Instr) (s : State), s.pending = c :: rest →
    step s = exec c { s with pending := rest }

/-- While PORST is not asserted TICK advances the stamp by one, returns the prescaler's count to 0 and takes the
divisor the settings store holds for the next interval (whatever the count: log entry 4; also while WRST is held,
where that divisor is the undisturbed one: log entry 6). A step on an empty queue (the model's choice, log entry 3)
raises the count by one, or, where the count would reach the divisor in use, is TICK. While PORST is asserted neither
changes anything. (R51, R52, R53, R54) -/
def Obligations.IdleStepAndTick : Prop :=
  ∀ s : State,
    (s.resets.porst = false →
      exec .tick s = .next { s with
        time := { stamp := s.time.stamp + 1, count := 0, divisorInUse := s.win.settings.divisorLessOne } }) ∧
    (s.resets.porst = true → exec .tick s = .next s) ∧
    (s.pending = [] → s.resets.porst = false → s.time.count < s.time.divisorInUse.toNat →
      step s = .next { s with time := { s.time with count := s.time.count + 1 } }) ∧
    (s.pending = [] → s.resets.porst = false → s.time.divisorInUse.toNat ≤ s.time.count →
      step s = exec .tick s) ∧
    (s.pending = [] → s.resets.porst = true → step s = .next s)

/-- Whenever a command answers a next state: the queue of waiting commands is unchanged; the time base is unchanged
unless it is TICK or PORST_ASSERT; the engine state unless it is ENTER_CONFIG, LEAVE_CONFIG, PORST_ASSERT or
WRST_ASSERT; the reset inputs unless it is one of their rows. While PORST or WRST is asserted every command but TICK,
STAMP_LO_READ and the rows of the reset inputs leaves the whole state unchanged; STAMP_LO_READ returns 0 and changes
nothing else. The row of a host command, an owner's take of it, leaves the whole state unchanged where that command is
not pending with that owner (log entry 1): the record engine for ENTER_CONFIG to VERIFY_RECORD, a report port for the
port commands, the notice queue for ACK_NOTICE, the escalation unit for CLEAR_FAULT and READ_REACTION. SET_TIMING and
READ_TIMING have no take of their own: their rows are the accepting write (log entry 9). (R51, R54, R61, R69, R102,
R125, R141, R155, R165, R167, R168, section 4.2) -/
def Obligations.WhatCommandsLeaveUnchanged : Prop :=
  (∀ (i : Instr) (s t : State), exec i s = .next t →
    t.pending = s.pending ∧
    (i ≠ .tick → i ≠ .porstAssert → t.time = s.time) ∧
    (i ≠ .enterConfig → i ≠ .leaveConfig → i ≠ .porstAssert → i ≠ .wrstAssert →
      t.engine.mode = s.engine.mode) ∧
    (i ≠ .porstAssert → i ≠ .porstRelease → i ≠ .wrstAssert → (∀ d, i ≠ .endOfWarmReset d) →
      t.resets = s.resets)) ∧
  (∀ s : State, s.held = true ↔ s.resets.porst = true ∨ s.resets.wrst = true) ∧
  (∀ (i : Instr) (s : State), s.held = true →
    (i ≠ .tick → i ≠ .stampLoRead → i ≠ .porstAssert → i ≠ .porstRelease → i ≠ .wrstAssert →
      (∀ d, i ≠ .endOfWarmReset d) → exec i s = .next s) ∧
    exec .stampLoRead s = .next { s with win := { s.win with readData := 0 } }) ∧
  (∀ (s : State) (i : Instr) (c : Command) (o : Owner),
    (i, c, o) ∈ [(Instr.enterConfig, Command.enterConfig, Owner.engine), (.leaveConfig, .leaveConfig, .engine),
      (.setMemory, .setMemory, .engine), (.readMemory, .readMemory, .engine), (.setRegion, .setRegion, .engine),
      (.readRegion, .readRegion, .engine), (.unmuteRegion, .unmuteRegion, .engine),
      (.fetchRecord, .fetchRecord, .engine), (.findRecord, .findRecord, .engine),
      (.retireRecord, .retireRecord, .engine), (.pinRecord, .pinRecord, .engine),
      (.unpinRecord, .unpinRecord, .engine), (.settleRecord, .settleRecord, .engine),
      (.clearTables, .clearTables, .engine), (.verifyRecord, .verifyRecord, .engine),
      (.ackNotice, .ackNotice, .notices), (.clearFault, .clearFault, .escalation),
      (.readReaction, .readReaction, .escalation)] →
    ¬ Waiting c o s → exec i s = .next s) ∧
  ∀ (s : State) (i : Instr) (c : Command),
    (i, c) ∈ [(Instr.setPort, Command.setPort), (.restartPort, .restartPort), (.flushPort, .flushPort),
      (.readPort, .readPort)] →
    (∀ ix : PortIx, ¬ Waiting c (.port ix) s) → exec i s = .next s

/-- ENTER_CONFIG, waiting with the engine, sets the engine state to CONFIG and ends with OK in RUN, and ends with
ALREADY in CONFIG; LEAVE_CONFIG sets it to RUN and ends with OK in CONFIG, and ends with ALREADY in RUN. Nothing else
changes but the completion. (R71, R73, section 4.7) -/
def Obligations.EnterAndLeaveConfig : Prop :=
  ∀ s : State,
    (Waiting .enterConfig .engine s → s.engine.mode = .run →
      exec .enterConfig s = .next (complete .ok none { s with engine := { s.engine with mode := .config } })) ∧
    (Waiting .enterConfig .engine s → s.engine.mode = .config →
      exec .enterConfig s = .next (complete .already none s)) ∧
    (Waiting .leaveConfig .engine s → s.engine.mode = .config →
      exec .leaveConfig s = .next (complete .ok none { s with engine := { s.engine with mode := .run } })) ∧
    (Waiting .leaveConfig .engine s → s.engine.mode = .run →
      exec .leaveConfig s = .next (complete .already none s))

/-- SET_MEMORY ends with REFUSED_STATE in RUN. In CONFIG it ends with BAD_PARAM for a memory id above 15, an owner
that is no port and not NONE, a granule size that is none of the ten, or a size of 0 or above 2^29; with IN_USE where
a record or job names the memory; and otherwise writes owner, granule size and size into that one entry, with its
integrity code, and ends with OK. The ten granule sizes are those of Table 2-1, 8 to 4096 bytes. (R36, R179, section
2.1, section 2.2) -/
def Obligations.SetMemoryChecksAndWrites : Prop :=
  (∀ g : GranuleSize, g.bytes =
    match g with
    | .g8 => 8 | .g16 => 16 | .g32 => 32 | .g64 => 64 | .g128 => 128 | .g256 => 256 | .g512 => 512
    | .g1024 => 1024 | .g2048 => 2048 | .g4096 => 4096) ∧
  ∀ s : State, Waiting .setMemory .engine s →
    (s.engine.mode = .run → exec .setMemory s = .next (complete .refusedState none s)) ∧
    (s.engine.mode = .config →
      (15 < s.win.params[0].toNat ∨ (5 < s.win.params[1].toNat ∧ s.win.params[1] ≠ 0x00FF#16) ∨
        (∀ g : GranuleSize, s.win.params[2].toNat ≠ g.bytes) ∨
        s.win.params[3].toNat + 65536 * s.win.params[4].toNat = 0 ∨
        2 ^ 29 < s.win.params[3].toNat + 65536 * s.win.params[4].toNat) →
      exec .setMemory s = .next (complete .badParam none s)) ∧
    ∀ (m : MemId) (owner : Option PortIx) (g : GranuleSize) (size : Nat), s.engine.mode = .config →
      s.win.params[0].toNat = m.val →
      (s.win.params[1] = 0x00FF#16 ∧ owner = none ∨
        ∃ p : PortIx, s.win.params[1].toNat = p.val ∧ owner = some p) →
      s.win.params[2].toNat = g.bytes →
      s.win.params[3].toNat + 65536 * s.win.params[4].toNat = size → 1 ≤ size → size ≤ 2 ^ 29 →
      (MemoryNamed m s → exec .setMemory s = .next (complete .inUse none s)) ∧
      (¬ MemoryNamed m s →
        exec .setMemory s = .next (complete .ok none { s with
          engine := { s.engine with
            memories := s.engine.memories.set m.val
              { owner := owner, granuleSize := g, size := size, codeAgrees := true } } }))

/-- SET_REGION ends with REFUSED_STATE in RUN. In CONFIG, with part RANGE of an entry 0 to 11 and a base not above the
limit, both at most 2^29 - 1, it writes the range; with part POLICY and values in their ranges, it writes the policy.
Either way it clears the burst counter, the muted state and the decay deadline, keeps the counters and the other part,
rewrites the code and ends with OK. An index above 12, another part, RANGE of the default region or a value out of
range gives BAD_PARAM. (R47, R48, R179, section 2.5) -/
def Obligations.SetRegionChecksAndWrites : Prop :=
  (∀ w : Word, lowByte w = w.extractLsb' 0 8 ∧ highByte w = w.extractLsb' 8 8) ∧
  ∀ s : State, Waiting .setRegion .engine s →
    (s.engine.mode = .run → exec .setRegion s = .next (complete .refusedState none s)) ∧
    (s.engine.mode = .config →
      (12 < (lowByte s.win.params[0]).toNat ∨ 1 < (highByte s.win.params[0]).toNat ∨
        (highByte s.win.params[0] = 0 ∧ ((lowByte s.win.params[0]).toNat = 12 ∨
          2 ^ 29 ≤ s.win.params[2].toNat + 65536 * s.win.params[3].toNat ∨
          2 ^ 29 ≤ s.win.params[4].toNat + 65536 * s.win.params[5].toNat ∨
          s.win.params[4].toNat + 65536 * s.win.params[5].toNat <
            s.win.params[2].toNat + 65536 * s.win.params[3].toNat)) ∨
        (highByte s.win.params[0] = 1 ∧ (lowByte s.win.params[1] = 0 ∨ 15 < (highByte s.win.params[1]).toNat ∨
          s.win.params[3] = 0 ∨ 2 < s.win.params[4].toNat))) →
      exec .setRegion s = .next (complete .badParam none s)) ∧
    (∀ (ix : Fin 12) (base limit : Granule), s.engine.mode = .config →
      (lowByte s.win.params[0]).toNat = ix.val → highByte s.win.params[0] = 0 →
      s.win.params[2].toNat + 65536 * s.win.params[3].toNat = base.toNat →
      s.win.params[4].toNat + 65536 * s.win.params[5].toNat = limit.toNat → base ≤ limit →
      exec .setRegion s = .next (complete .ok none { s with
        engine := { s.engine with
          ranges := s.engine.ranges.set ix.val
            { enabled := s.win.params[1].getLsbD 0, mem := (s.win.params[1].extractLsb' 8 4).toFin,
              base := base, limit := limit }
          regions := s.engine.regions.set ix.val
            { s.engine.regions[ix.val] with
              counts := { s.engine.regions[ix.val].counts with
                muted := false, burst := 0, decayDeadline := none }
              codeAgrees := true } } })) ∧
    (∀ (ix : RegionIx) (cls : SevereClass), s.engine.mode = .config →
      (lowByte s.win.params[0]).toNat = ix.val → highByte s.win.params[0] = 1 →
      lowByte s.win.params[1] ≠ 0 → (highByte s.win.params[1]).toNat ≤ 15 → s.win.params[3] ≠ 0 →
      s.win.params[4] = (match cls with | .notice => 0 | .deadline => 1 | .immediate => 2) →
      exec .setRegion s = .next (complete .ok none { s with
        engine := { s.engine with
          regions := s.engine.regions.set ix.val
            { policy :=
                { threshold := lowByte s.win.params[1], verifyEnable := s.win.params[2].getLsbD 15,
                  softLimit := s.win.params[1].extractLsb' 8 4, burstLimit := lowByte s.win.params[2],
                  decayPeriod := s.win.params[3], severeClass := cls }
              counts := { s.engine.regions[ix].counts with
                muted := false, burst := 0, decayDeadline := none }
              codeAgrees := true } } }))

/-- READ_MEMORY shows the entry of a memory id up to 15 with the numbers of C-records and of S-records of that memory;
above 15 it ends with BAD_PARAM. READ_REGION shows the named part of a region: RANGE for 0 to 11, POLICY and COUNTERS
for 0 to 12; any other index, part or pair of them ends with BAD_PARAM. READ_PORT, waiting with its port, shows that
port. In both engine states; nothing else changes. Each view is laid out as Table 11-7 states: the fields at their
bits, the codes of states and classes as numbered there, an absent field 0, and every other bit 0. Bits of PARAM0
outside the packed fields are ignored (R179, log entry 10). (R37, R49, R100, R179, section 11.5) -/
def Obligations.ReadCommandsShowEntries : Prop :=
  (∀ s : State,
    (Waiting .readMemory .engine s →
      (15 < s.win.params[0].toNat → exec .readMemory s = .next (complete .badParam none s)) ∧
      ∀ m : MemId, s.win.params[0].toNat = m.val →
        exec .readMemory s = .next (complete .ok
          (some (viewMemory m s.engine.memories[m]
            (s.engine.cTable.toList.countP fun r => r.any fun r => r.core.key.mem == m)
            (s.engine.sTable.toList.countP fun r => r.any fun r => r.core.key.mem == m))) s)) ∧
    (Waiting .readRegion .engine s →
      (12 < (lowByte s.win.params[0]).toNat ∨ 2 < (highByte s.win.params[0]).toNat ∨
        ((lowByte s.win.params[0]).toNat = 12 ∧ highByte s.win.params[0] = 0) →
        exec .readRegion s = .next (complete .badParam none s)) ∧
      (∀ ix : Fin 12, (lowByte s.win.params[0]).toNat = ix.val → highByte s.win.params[0] = 0 →
        exec .readRegion s = .next (complete .ok (some (viewRange s.engine.ranges[ix])) s)) ∧
      (∀ ix : RegionIx, (lowByte s.win.params[0]).toNat = ix.val → highByte s.win.params[0] = 1 →
        exec .readRegion s = .next (complete .ok (some (viewPolicy s.engine.regions[ix])) s)) ∧
      ∀ ix : RegionIx, (lowByte s.win.params[0]).toNat = ix.val → highByte s.win.params[0] = 2 →
        exec .readRegion s = .next (complete .ok (some (viewCounters s.engine.regions[ix])) s)) ∧
    ∀ ix : PortIx, Waiting .readPort (.port ix) s →
      exec .readPort s = .next (complete .ok (some (viewPort s.ports[ix])) s)) ∧
  (∀ (m : MemId) (e : MemoryEntry) (cCount sCount : Nat), viewMemory m e cCount sCount =
    #v[(match e.owner with | none => 0xFF#8 | some p => BitVec.ofNat 8 p.val) ++ 0#4 ++ BitVec.ofNat 4 m.val,
      BitVec.ofNat 16 e.granuleSize.bytes, BitVec.ofNat 16 e.size, BitVec.ofNat 16 (e.size / 65536),
      BitVec.ofNat 16 cCount, BitVec.ofNat 16 sCount, 0, 0]) ∧
  (∀ r : RegionRange, viewRange r =
    #v[0#4 ++ BitVec.ofNat 4 r.mem.val ++ 0#7 ++ BitVec.ofBool r.enabled,
      r.base.extractLsb' 0 16, 0#3 ++ r.base.extractLsb' 16 13,
      r.limit.extractLsb' 0 16, 0#3 ++ r.limit.extractLsb' 16 13, 0, 0, 0]) ∧
  (∀ r : Region, viewPolicy r =
    #v[BitVec.ofBool r.policy.verifyEnable ++ 0#3 ++ r.policy.softLimit ++ r.policy.threshold,
      0#8 ++ r.policy.burstLimit, r.policy.decayPeriod,
      (match r.policy.severeClass with | .notice => 0 | .deadline => 1 | .immediate => 2),
      0#15 ++ BitVec.ofBool r.counts.muted, 0#8 ++ r.counts.burst, 0, 0]) ∧
  (∀ r : Region, viewCounters r =
    #v[r.counts.accepted, r.counts.unrecorded, r.counts.evictions, r.counts.mutedReports, 0, 0, 0, 0]) ∧
  ∀ p : Port, viewPort p =
    #v[0#9 ++ BitVec.ofNat 3 p.queue.length ++ 0#1 ++ BitVec.ofBool p.haltOnError ++
        (match p.mode with | .down => 0#2 | .listen => 1#2 | .ready => 2#2 | .halted => 3#2),
      p.lastAccepted.getD 0 ++ p.expected,
      0#4 ++ p.outstanding.getD 0 ++ 0#5 ++ BitVec.ofBool p.outstanding.isSome ++
        BitVec.ofBool p.reporterId.isSome ++ BitVec.ofBool p.lastAccepted.isSome,
      p.reporterId.getD 0, p.sequenceErrors ++ p.checkErrors, p.flushed ++ p.staleVerdicts, 0, 0]

/-- Burst counting does nothing under a limit of 0; otherwise the counter rises by one, from 0 arming the decay
deadline, and at the limit the region is muted, its deadline absent, and BURST posted. UNMUTE_REGION ends with
BAD_PARAM for an index above 12, ALREADY for a region not muted, else clears counter, muted state and deadline. A
present and reached decay deadline lowers the counter by one and is armed again while it stays above 0; otherwise
nothing changes (log entry 1). (R41, R43, R45, R46, section 2.4) -/
def Obligations.RegionBurstState : Prop :=
  (∀ (s : State) (ix : RegionIx),
      let c := s.engine.regions[ix].counts
      let p := s.engine.regions[ix].policy
      (p.burstLimit = 0 → burstCount ix s = s) ∧
      (p.burstLimit ≠ 0 → c.burst + 1 ≠ p.burstLimit →
        burstCount ix s = s.withCounts ix { c with
          burst := c.burst + 1
          decayDeadline :=
            if c.burst = 0 then some (s.time.stamp + p.decayPeriod.setWidth 32) else c.decayDeadline }) ∧
      (p.burstLimit ≠ 0 → c.burst + 1 = p.burstLimit →
        burstCount ix s = post (.burst ix) false
          (s.withCounts ix { c with burst := c.burst + 1, muted := true, decayDeadline := none }))) ∧
  ∀ s : State,
    (Waiting .unmuteRegion .engine s →
      (12 < s.win.params[0].toNat → exec .unmuteRegion s = .next (complete .badParam none s)) ∧
      ∀ ix : RegionIx, s.win.params[0].toNat = ix.val →
        (s.engine.regions[ix].counts.muted = false →
          exec .unmuteRegion s = .next (complete .already none s)) ∧
        (s.engine.regions[ix].counts.muted = true →
          exec .unmuteRegion s = .next (complete .ok none
            (s.withCounts ix { s.engine.regions[ix].counts with
              muted := false, burst := 0, decayDeadline := none })))) ∧
    ∀ ix : RegionIx, s.held = false →
      ((∀ d, s.engine.regions[ix].counts.decayDeadline = some d → ¬ (s.time.stamp - d).toNat < 2 ^ 31) →
        exec (.decayDeadline ix) s = .next s) ∧
      ∀ d, s.engine.regions[ix].counts.decayDeadline = some d → (s.time.stamp - d).toNat < 2 ^ 31 →
        (s.engine.regions[ix].counts.burst.toNat ≤ 1 →
          exec (.decayDeadline ix) s = .next
            (s.withCounts ix { s.engine.regions[ix].counts with burst := 0, decayDeadline := none })) ∧
        (1 < s.engine.regions[ix].counts.burst.toNat →
          exec (.decayDeadline ix) s = .next
            (s.withCounts ix { s.engine.regions[ix].counts with
              burst := s.engine.regions[ix].counts.burst - 1
              decayDeadline := some (s.time.stamp +
                s.engine.regions[ix].policy.decayPeriod.setWidth 32) }))

/-- RETIRE_RECORD, PIN_RECORD, UNPIN_RECORD and SETTLE_RECORD: a table the command does not accept, a slot out of
range or a version above 255 gives BAD_PARAM, also on an empty slot; then an empty slot gives NOT_FOUND; then another
version than the record's gives STALE. VERIFY_RECORD and FETCH_RECORD make the table and slot checks. Nothing but the
completion changes. Bits 15:9 of PARAM0, and bit 8 but for FETCH_RECORD's page, are ignored (R179, log entry 10).
(R24, R180, section 1.7) -/
def Obligations.RecordCommandChecks : Prop :=
  ∀ s : State,
    let noC := lowByte s.win.params[0] ≠ 0 ∨ 31 < s.win.params[1].toNat
    let noS := lowByte s.win.params[0] ≠ 1 ∨ 15 < s.win.params[1].toNat
    let noVersion := 255 < s.win.params[2].toNat
    (Waiting .retireRecord .engine s → noC ∧ noS ∨ noVersion →
      exec .retireRecord s = .next (complete .badParam none s)) ∧
    (Waiting .pinRecord .engine s → noC ∨ noVersion →
      exec .pinRecord s = .next (complete .badParam none s)) ∧
    (Waiting .unpinRecord .engine s → noC ∨ noVersion →
      exec .unpinRecord s = .next (complete .badParam none s)) ∧
    (Waiting .settleRecord .engine s → noS ∨ noVersion →
      exec .settleRecord s = .next (complete .badParam none s)) ∧
    (Waiting .verifyRecord .engine s → noC → exec .verifyRecord s = .next (complete .badParam none s)) ∧
    (Waiting .fetchRecord .engine s → noC ∧ noS →
      exec .fetchRecord s = .next (complete .badParam none s)) ∧
    (∀ slot : CSlot, lowByte s.win.params[0] = 0 → s.win.params[1].toNat = slot.val →
      (s.engine.cTable[slot] = none →
        (Waiting .verifyRecord .engine s → exec .verifyRecord s = .next (complete .notFound none s)) ∧
        (Waiting .fetchRecord .engine s → exec .fetchRecord s = .next (complete .notFound none s))) ∧
      ∀ (i : Instr) (c : Command),
        (i, c) ∈ [(.retireRecord, .retireRecord), (.pinRecord, .pinRecord), (.unpinRecord, .unpinRecord)] →
        Waiting c .engine s → s.win.params[2].toNat ≤ 255 →
        (s.engine.cTable[slot] = none → exec i s = .next (complete .notFound none s)) ∧
        ∀ r, s.engine.cTable[slot] = some r → r.core.version.toNat ≠ s.win.params[2].toNat →
          exec i s = .next (complete .stale none s)) ∧
    (∀ slot : SSlot, lowByte s.win.params[0] = 1 → s.win.params[1].toNat = slot.val →
      (s.engine.sTable[slot] = none →
        (Waiting .fetchRecord .engine s → exec .fetchRecord s = .next (complete .notFound none s))) ∧
      ∀ (i : Instr) (c : Command),
        (i, c) ∈ [(.retireRecord, .retireRecord), (.settleRecord, .settleRecord)] →
        Waiting c .engine s → s.win.params[2].toNat ≤ 255 →
        (s.engine.sTable[slot] = none → exec i s = .next (complete .notFound none s)) ∧
        ∀ r, s.engine.sTable[slot] = some r → r.core.version.toNat ≠ s.win.params[2].toNat →
          exec i s = .next (complete .stale none s))

/-- FETCH_RECORD of an occupied slot ends with OK; the view is page 0 or, with bit 8 of PARAM0 set, page 1 of the
record, page 0 of a C-record showing the job for its slot. FIND_RECORD ends with BAD_PARAM for a memory id above 15, a
memory of owner NONE or an address whose granule number is not below the size; otherwise with OK, the view showing
table, slot and version of the record that holds the key, or NOT_FOUND where none does. Nothing else changes. Bits
15:9 of PARAM0 of FETCH_RECORD are ignored (R179, log entry 10). Each view is laid out as Tables 11-6 and 11-7 state:
the fields at their bits, the codes of states, verdicts, reasons and jobs as numbered there, an absent field 0, and
every other bit 0. (R25, R26, R1, R179, section 11.5) -/
def Obligations.FetchAndFindRecordShowRecord : Prop :=
  (∀ s : State,
    (Waiting .fetchRecord .engine s →
      (∀ (slot : CSlot) (r : CRecord), lowByte s.win.params[0] = 0 → s.win.params[1].toNat = slot.val →
        s.engine.cTable[slot] = some r →
        (s.win.params[0].getLsbD 8 = false →
          exec .fetchRecord s = .next (complete .ok
            (some (viewCRecord slot r (s.sched.jobs.find? fun j => j.slot == slot))) s)) ∧
        (s.win.params[0].getLsbD 8 = true →
          exec .fetchRecord s = .next (complete .ok (some (viewPage1 (.c slot) r.core)) s))) ∧
      ∀ (slot : SSlot) (r : SRecord), lowByte s.win.params[0] = 1 → s.win.params[1].toNat = slot.val →
        s.engine.sTable[slot] = some r →
        (s.win.params[0].getLsbD 8 = false →
          exec .fetchRecord s = .next (complete .ok (some (viewSRecord slot r)) s)) ∧
        (s.win.params[0].getLsbD 8 = true →
          exec .fetchRecord s = .next (complete .ok (some (viewPage1 (.s slot) r.core)) s))) ∧
    (Waiting .findRecord .engine s →
      let addr := s.win.params[1].toNat + 65536 * s.win.params[2].toNat
      (15 < s.win.params[0].toNat → exec .findRecord s = .next (complete .badParam none s)) ∧
      ∀ m : MemId, s.win.params[0].toNat = m.val →
        let entry := s.engine.memories[m]
        (entry.owner = none ∨ entry.size ≤ addr / entry.granuleSize.bytes →
          exec .findRecord s = .next (complete .badParam none s)) ∧
        ∀ k : Key, k.mem = m → k.granule.toNat = addr / entry.granuleSize.bytes → entry.owner ≠ none →
          k.granule.toNat < entry.size →
          (∀ slot r, HeldInC k slot r s →
            exec .findRecord s = .next (complete .ok (some (viewFound (.c slot) r.core)) s)) ∧
          (∀ slot r, HeldInS k slot r s → (∀ (i : CSlot) (r' : CRecord),
              s.engine.cTable[i] = some r' → r'.core.key ≠ k) →
            exec .findRecord s = .next (complete .ok (some (viewFound (.s slot) r.core)) s)) ∧
          (KeyAbsent k s → exec .findRecord s = .next (complete .notFound none s)))) ∧
  let refBits : RecRef → Byte := fun ref =>
    match ref with
    | .c slot => 0#3 ++ BitVec.ofNat 5 slot.val
    | .s slot => 4#3 ++ BitVec.ofNat 5 slot.val
  let keyBits : RecordCore → Byte := fun core => BitVec.ofNat 4 core.region.val ++ BitVec.ofNat 4 core.key.mem.val
  let jobBits : Option Job → Byte := fun job =>
    match job with
    | none => 0
    | some j => 0#2 ++ j.attempts ++ (match j.cls with | .normal => 0#1 | .urgent => 1#1) ++
        (match j.mode with | .queued _ => 1#2 | .inFlight _ _ _ _ => 2#2 | .answered _ _ _ => 3#2)
  (∀ (slot : CSlot) (r : CRecord) (job : Option Job), viewCRecord slot r job =
    #v[refBits (.c slot) ++ keyBits r.core, r.core.key.granule.extractLsb' 0 16,
      (match r.mode with | .counting => 0#3 | .suspect => 1#3 | .hard => 2#3 | .unverified => 3#3) ++
        r.core.key.granule.extractLsb' 16 13,
      r.core.hits, 0#2 ++ BitVec.ofBool r.pinned ++ r.core.kinds ++ r.core.version, r.hitsSinceVerdict,
      jobBits job ++
        (match r.hardReason with | none => 0#2 | some .persists => 1#2 | some .repeatedSoft => 2#2) ++
        (match r.lastVerdict with | .none => 0#2 | .clean => 1#2 | .persists => 2#2 | .exhausted => 3#2) ++
        r.softVerdicts, 0]) ∧
  (∀ (slot : SSlot) (r : SRecord), viewSRecord slot r =
    #v[refBits (.s slot) ++ keyBits r.core, r.core.key.granule.extractLsb' 0 16,
      (match r.mode with | .opened => 4#3 | .settled => 5#3) ++ r.core.key.granule.extractLsb' 16 13,
      r.core.hits,
      0#1 ++ (match r.origin with | .created => 0#1 | .promoted => 1#1) ++ 0#1 ++ r.core.kinds ++
        r.core.version, 0, 0, 0]) ∧
  ∀ (ref : RecRef) (core : RecordCore),
    viewPage1 ref core =
      #v[refBits ref ++ keyBits core, core.firstStamp.extractLsb' 0 16, core.firstStamp.extractLsb' 16 16,
        core.lastStamp.extractLsb' 0 16, core.lastStamp.extractLsb' 16 16,
        0#1 ++ BitVec.ofBool core.lastMaster.isSome ++ core.lastMaster.getD 0 ++ 0#1 ++
          BitVec.ofBool core.firstMaster.isSome ++ core.firstMaster.getD 0,
        core.syndrome.getD 0, core.version ++ 0#7 ++ BitVec.ofBool core.syndrome.isSome] ∧
    viewFound ref core = #v[refBits ref ++ 0#8, 0#8 ++ core.version, 0, 0, 0, 0, 0, 0]

/-- RETIRE_RECORD with the record's version ends with OK. A C-record leaves its slot free, the pinned count falls by
one if it was pinned, the C-full notice flag is re-armed, and its job, if any, is withdrawn: it leaves the queue and
the order of ANSWERED jobs, and a job offered, or IN_FLIGHT with no cancel requested, has a cancel request for its tag
handed to its port. An S-record leaves its slot free. Nothing else changes but the completion. Bits 15:8 of PARAM0 are
ignored (R179, log entry 10). (R27, R18, R121) -/
def Obligations.RetireRecordRemoves : Prop :=
  ∀ s : State, Waiting .retireRecord .engine s →
    (∀ (slot : CSlot) (r : CRecord), lowByte s.win.params[0] = 0 → s.win.params[1].toNat = slot.val →
      s.engine.cTable[slot] = some r → s.win.params[2].toNat = r.core.version.toNat →
      let freed := { s with
        engine := { s.engine with
          cTable := s.engine.cTable.set slot.val none
          pinnedCount := s.engine.pinnedCount - (if r.pinned then 1 else 0)
          cFullArmed := true } }
      ((∀ j ∈ s.sched.jobs, j.slot ≠ slot) → exec .retireRecord s = .next (complete .ok none freed)) ∧
      ∀ before j after, JobAt before j after s → j.slot = slot →
        let gone := { freed with
          sched := { s.sched with
            jobs := before ++ after, answered := s.sched.answered.filter fun k => k != slot } }
        exec .retireRecord s = .next (complete .ok none
          (match j.mode with
            | .queued (some (ix, tag)) => gone.withHandover ix (.cancel tag)
            | .inFlight ix tag _ none => gone.withHandover ix (.cancel tag)
            | _ => gone))) ∧
    ∀ (slot : SSlot) (r : SRecord), lowByte s.win.params[0] = 1 → s.win.params[1].toNat = slot.val →
      s.engine.sTable[slot] = some r → s.win.params[2].toNat = r.core.version.toNat →
      exec .retireRecord s = .next (complete .ok none { s with
        engine := { s.engine with sTable := s.engine.sTable.set slot.val none } })

/-- With the version of the C-record in the slot: PIN_RECORD ends with ALREADY where it is pinned, with FULL where 24
are pinned, and otherwise sets its flag and raises the pinned count; UNPIN_RECORD ends with ALREADY where it is not
pinned, and otherwise clears its flag and lowers the count. The version is not advanced; the code is rewritten;
nothing else changes but the completion. Bits 15:8 of PARAM0 are ignored (R179, log entry 10). (R28, R29, R8) -/
def Obligations.PinAndUnpinRecord : Prop :=
  ∀ (s : State) (slot : CSlot) (r : CRecord), lowByte s.win.params[0] = 0 →
    s.win.params[1].toNat = slot.val → s.engine.cTable[slot] = some r →
    s.win.params[2].toNat = r.core.version.toNat →
    (Waiting .pinRecord .engine s →
      (r.pinned = true → exec .pinRecord s = .next (complete .already none s)) ∧
      (r.pinned = false → 24 ≤ s.engine.pinnedCount → exec .pinRecord s = .next (complete .full none s)) ∧
      (r.pinned = false → s.engine.pinnedCount < 24 →
        exec .pinRecord s = .next (complete .ok none { s with
          engine := { s.engine with
            cTable := s.engine.cTable.set slot.val
              (some { r with pinned := true, core := { r.core with codeAgrees := true } })
            pinnedCount := s.engine.pinnedCount + 1 } }))) ∧
    (Waiting .unpinRecord .engine s →
      (r.pinned = false → exec .unpinRecord s = .next (complete .already none s)) ∧
      (r.pinned = true →
        exec .unpinRecord s = .next (complete .ok none { s with
          engine := { s.engine with
            cTable := s.engine.cTable.set slot.val
              (some { r with pinned := false, core := { r.core with codeAgrees := true } })
            pinnedCount := s.engine.pinnedCount - 1 } })))

/-- After the checks of R24 (the version given is the record's): a SETTLED record gives ALREADY; an OPEN record
becomes SETTLED, its version advances by one, and the command ends with OK, the notice queue untouched. A second
SETTLE_RECORD with the version first given then ends with STALE. That the record is named by bits 7:0 of PARAM0,
whatever bits 15:8 are, is read from R179 and is the model's reading (log entry 10, DEDUCED). (R30, R24, R179) -/
def Obligations.SettleRecordSettlesOnce : Prop :=
  ∀ (s : State) (slot : SSlot) (r : SRecord), Waiting .settleRecord .engine s →
    lowByte s.win.params[0] = 1 → s.win.params[1].toNat = slot.val → s.engine.sTable[slot] = some r →
    s.win.params[2].toNat = r.core.version.toNat →
    (r.mode = .settled → exec .settleRecord s = .next (complete .already none s)) ∧
    (r.mode = .opened →
      let settled := complete .ok none (s.withS slot { r with
        mode := .settled
        core := { r.core with version := r.core.version + 1, codeAgrees := true } })
      exec .settleRecord s = .next settled ∧
      ∀ again : State, Waiting .settleRecord .engine again → again.engine.sTable = settled.engine.sTable →
        again.win.params = s.win.params →
        exec .settleRecord again = .next (complete .stale none again))

/-- CLEAR_TABLES ends with REFUSED_STATE in RUN. In CONFIG every slot of both tables becomes free, the pinned count 0,
the C-full notice flag armed; no job and no ANSWERED entry is left; each port is handed, behind what it already had,
cancel requests only; all else but the completion stays. (R31, R121, section 1.7) -/
def Obligations.ClearTablesEmpties : Prop :=
  ∀ s : State, Waiting .clearTables .engine s →
    (s.engine.mode = .run → exec .clearTables s = .next (complete .refusedState none s)) ∧
    (s.engine.mode = .config → (s.sched.jobs.map Job.slot).Nodup →
      (∀ slot ∈ s.sched.answered, ∃ j ∈ s.sched.jobs, j.slot = slot) →
      ∃ cancels : Vector (List Tag) 6,
        (∀ ix : PortIx, cancels[ix] = s.sched.jobs.filterMap fun j =>
          match j.mode with
          | .queued (some (p, tag)) => if p = ix then some tag else none
          | .inFlight p tag _ none => if p = ix then some tag else none
          | _ => none) ∧
        exec .clearTables s = .next (complete .ok none { s with
          engine := { s.engine with
            cTable := Vector.replicate 32 none, sTable := Vector.replicate 16 none
            pinnedCount := 0, cFullArmed := true }
          sched := { s.sched with
            jobs := [], answered := []
            handovers := Vector.ofFn fun ix =>
              s.sched.handovers[ix] ++ cancels[ix].map Handover.cancel } }))

/-- On a C-record in COUNTING, UNVERIFIED or HARD: with fewer than 8 jobs queued the record becomes SUSPECT, its
version advances by one, and an URGENT job for it, QUEUED with attempts 0, stands behind the URGENT jobs and ahead of
the NORMAL ones; with 8 the command ends with FULL. On a SUSPECT record: a QUEUED NORMAL job moves to the tail of the
URGENT class, keeping attempts and offer; any other job gives ALREADY. Bits 15:8 of PARAM0 are ignored (R179, log
entry 10). The new job's name is the model's own (log entry 22). (R122, R105, R104) -/
def Obligations.VerifyRecordEntersUrgentJob : Prop :=
  ∀ (s : State) (slot : CSlot) (r : CRecord), Waiting .verifyRecord .engine s →
    lowByte s.win.params[0] = 0 → s.win.params[1].toNat = slot.val → s.engine.cTable[slot] = some r →
    (r.mode ≠ .suspect → 8 ≤ s.sched.jobs.length → exec .verifyRecord s = .next (complete .full none s)) ∧
    (∀ urgents normals, s.sched.jobs = urgents ++ normals → (∀ j ∈ urgents, j.cls = .urgent) →
      (∀ j ∈ normals, j.cls = .normal) → r.mode ≠ .suspect → s.sched.jobs.length < 8 →
      exec .verifyRecord s = .next (complete .ok none
        ((s.withC slot { r with
          mode := .suspect
          core := { r.core with version := r.core.version + 1, codeAgrees := true } }).withNewJobs
          (urgents ++
            { id := s.sched.nextJob, slot := slot, key := r.core.key, cls := .urgent, attempts := 0
              mode := .queued none } ::
            normals)))) ∧
    (∀ before j after, JobAt before j after s → j.slot = slot → r.mode = .suspect →
      ((j.cls = .urgent ∨ ∀ offer, j.mode ≠ .queued offer) →
        exec .verifyRecord s = .next (complete .already none s)) ∧
      ∀ urgents normals offer, before ++ after = urgents ++ normals → (∀ k ∈ urgents, k.cls = .urgent) →
        (∀ k ∈ normals, k.cls = .normal) → j.cls = .normal → j.mode = .queued offer →
        exec .verifyRecord s = .next (complete .ok none
          (s.withJobs (urgents ++ { j with cls := .urgent } :: normals))))

/-- In CONFIG, with an engine command pending, a job ANSWERED or every queue empty, TAKE_REPORT changes nothing (log
entry 1). Otherwise the head report of the first non-empty queue after the port last served is taken: it leaves its
queue and the port becomes the port last served. A report that fails the ownership check raises the default region's
unrecorded counter; a correctable report of a muted region raises that region's muted counter; nothing else changes.
The search goes through the six ports from the one after the port last served. Region lookup finds the lowest-numbered
enabled entry of the key's memory whose range holds the granule, else the default region. A report accepted leaves its
queue, its port is last served, and the region's accepted counter rises by one, up to 65535; a saturating count stays
at its greatest value. (R35, R40, R42, R44, R63, R64, R65, section 4.4) -/
def Obligations.TakeReportWithoutTableEffect : Prop :=
  (∀ s : State,
    (s.held = false →
      (s.engine.mode = .config ∨ (∃ c, s.win.command = some ⟨c, .engine⟩) ∨ s.sched.answered ≠ [] ∨
        ∀ ix : PortIx, s.ports[ix].queue = []) → exec .takeReport s = .next s) ∧
    ∀ (ix : PortIx) (rep : Report), ReportDue ix rep s →
      let taken := { s.withPort ix { s.ports[ix] with queue := s.ports[ix].queue.tail } with
        engine := { s.engine with lastServed := ix } }
      (s.engine.memories[rep.mem].owner ≠ some ix ∨ s.engine.memories[rep.mem].size ≤
          rep.addr.toNat / s.engine.memories[rep.mem].granuleSize.bytes →
        exec .takeReport s = .next (taken.withCounts 12
          { s.engine.regions[12].counts with
            unrecorded := satInc s.engine.regions[12].counts.unrecorded })) ∧
      ∀ (k : Key) (region : RegionIx), Admitted ix rep k region s → rep.kind.severe = false →
        s.engine.regions[region].counts.muted = true →
        exec .takeReport s = .next (taken.withCounts region
          { s.engine.regions[region].counts with
            mutedReports := satInc s.engine.regions[region].counts.mutedReports })) ∧
  (∀ last : PortIx, (searchOrder last).map Fin.val = (List.range 6).map fun n => (last.val + 1 + n) % 6) ∧
  (∀ (s : State) (k : Key),
    let holds := fun i : Fin 12 => s.engine.ranges[i].enabled = true ∧ s.engine.ranges[i].mem = k.mem ∧
      s.engine.ranges[i].base.toNat ≤ k.granule.toNat ∧ k.granule.toNat ≤ s.engine.ranges[i].limit.toNat
    (∀ i : Fin 12, holds i → (∀ j < i, ¬ holds j) → (s.lookupRegion k).val = i.val) ∧
    ((∀ i : Fin 12, ¬ holds i) → s.lookupRegion k = 12)) ∧
  (∀ (s : State) (ix : PortIx) (region : RegionIx), acceptedReport ix region s =
    ({ s.withPort ix { s.ports[ix] with queue := s.ports[ix].queue.tail } with
      engine := { s.engine with lastServed := ix } } : State).withCounts region
        { s.engine.regions[region].counts with
          accepted := BitVec.ofNat 16 (min 65535 (s.engine.regions[region].counts.accepted.toNat + 1)) }) ∧
  (∀ w : Word, (satInc w).toNat = min 65535 (w.toNat + 1)) ∧
  ∀ b : Byte, (satInc b).toNat = min 255 (b.toNat + 1)

/-- The report update raises hits by one up to 65535, adds the report's kind to kinds seen and no other, sets the last
stamp, sets the last master and, where it was absent, the first master from a report that carries a master id, sets
the syndrome from a report that carries one, advances the version by one modulo 256, and leaves key, region and first
stamp. Kinds seen has one bit for each kind, CORR1, CORRM, SCRUB, UNCORR and ADDRCHK from bit 0 up, as V4 of the view
shows them from bit 8 up (Table 11-6); UNCORR and ADDRCHK are the severe kinds (Table 0-2). (R3, R5, R6, R11, section
11.5, Table 0-2) -/
def Obligations.ReportUpdateOfRecord : Prop :=
  (∀ kind : Kind, kind.bit =
    match kind with
    | .corr1 => 0b00001#5 | .corrM => 0b00010#5 | .scrub => 0b00100#5 | .uncorr => 0b01000#5
    | .addrChk => 0b10000#5) ∧
  (∀ kind : Kind, kind.severe = true ↔ kind = .uncorr ∨ kind = .addrChk) ∧
  ∀ (c : RecordCore) (rep : Report) (stamp : Stamp),
    let c' := c.updated rep stamp
    c'.hits.toNat = min (c.hits.toNat + 1) 65535 ∧
    (∀ kind : Kind, c'.kinds &&& kind.bit ≠ 0 ↔ c.kinds &&& kind.bit ≠ 0 ∨ kind = rep.kind) ∧
    c'.lastStamp = stamp ∧ c'.firstStamp = c.firstStamp ∧ c'.key = c.key ∧ c'.region = c.region ∧
    c'.version.toNat = (c.version.toNat + 1) % 256 ∧
    (∀ id, rep.master = some id →
      c'.lastMaster = some id ∧ c'.firstMaster = some (c.firstMaster.getD id)) ∧
    (rep.master = none → c'.lastMaster = c.lastMaster ∧ c'.firstMaster = c.firstMaster) ∧
    (∀ w, rep.syndrome = some w → c'.syndrome = some w) ∧
    (rep.syndrome = none → c'.syndrome = c.syndrome)

/-- When TAKE_REPORT takes a correctable report of an unmuted region whose key an S-record holds, that S-record
receives the report update, its state OPEN or SETTLED and its origin staying as they were; the C-table, the jobs and
the notices are those left by the acceptance and burst counting of the report. (R12) -/
def Obligations.CorrectableReportOnSRecord : Prop :=
  ∀ (s : State) (ix : PortIx) (rep : Report) (k : Key) (region : RegionIx) (slot : SSlot) (r : SRecord),
    ReportDue ix rep s → Admitted ix rep k region s → rep.kind.severe = false →
    s.engine.regions[region].counts.muted = false → HeldInS k slot r s →
    exec .takeReport s = .next
      ((burstCount region (acceptedReport ix region s)).withS slot
        { r with core := { r.core.updated rep s.time.stamp with codeAgrees := true } })

/-- The C-record receives the report update and one more hit since verdict; then, in COUNTING or UNVERIFIED with hits
since verdict at or above its region's threshold, verify enable set and fewer than 8 jobs queued, it becomes SUSPECT
and a NORMAL job for it enters at the tail; otherwise its state stays. Nothing else changes beyond the report's
acceptance and burst counting. (R13, R14, R11, R106) -/
def Obligations.CorrectableReportOnCRecord : Prop :=
  ∀ (s : State) (ix : PortIx) (rep : Report) (k : Key) (region : RegionIx) (slot : CSlot) (r : CRecord),
    ReportDue ix rep s → Admitted ix rep k region s → rep.kind.severe = false →
    s.engine.regions[region].counts.muted = false → HeldInC k slot r s →
    ∃ t, exec .takeReport s = .next t ∧
      CheckedInto slot
        { r with
          core := { r.core.updated rep s.time.stamp with codeAgrees := true }
          hitsSinceVerdict := satInc r.hitsSinceVerdict }
        (burstCount region (acceptedReport ix region s)) t

/-- Where no record holds the key, the lowest free C slot takes a record with the key and region of the report,
COUNTING, hits and hits since verdict 1, the one kind, both stamps those of the take, masters and syndrome as the
report carries them, version 0, not pinned, no verdicts; the threshold check follows. (R15, R2, R14) -/
def Obligations.CorrectableReportCreatesRecord : Prop :=
  ∀ (s : State) (ix : PortIx) (rep : Report) (k : Key) (region : RegionIx) (slot : CSlot),
    ReportDue ix rep s → Admitted ix rep k region s → rep.kind.severe = false →
    s.engine.regions[region].counts.muted = false → KeyAbsent k s → LowestFreeC slot s →
    ∃ t, exec .takeReport s = .next t ∧
      CheckedInto slot
        { core :=
            { key := k, region := region, hits := 1, kinds := rep.kind.bit, firstStamp := s.time.stamp
              lastStamp := s.time.stamp, firstMaster := rep.master, lastMaster := rep.master
              syndrome := rep.syndrome, version := 0, codeAgrees := true }
          mode := .counting, pinned := false, hitsSinceVerdict := 1, softVerdicts := 0
          lastVerdict := .none, hardReason := none }
        (burstCount region (acceptedReport ix region s)) t

/-- With every C slot occupied: the victim is the COUNTING unpinned record of greatest age, the lowest slot among
equals; its own region's evictions counter rises and the new record takes its slot, the C-full flag as it was. With no
such record the report's region's unrecorded counter rises, and where the C-full flag is armed a TABLE_FULL notice is
posted and the flag disarmed. (R16, R17, R18, R58) -/
def Obligations.CorrectableReportOnFullTable : Prop :=
  ∀ (s : State) (ix : PortIx) (rep : Report) (k : Key) (region : RegionIx),
    ReportDue ix rep s → Admitted ix rep k region s → rep.kind.severe = false →
    s.engine.regions[region].counts.muted = false → KeyAbsent k s →
    (∀ i : CSlot, s.engine.cTable[i] ≠ none) →
    let b := burstCount region (acceptedReport ix region s)
    (∀ (slot : CSlot) (r : CRecord), s.engine.cTable[slot] = some r → r.mode = .counting →
      r.pinned = false →
      (∀ (i : CSlot) (r' : CRecord), s.engine.cTable[i] = some r' → r'.mode = .counting →
        r'.pinned = false →
        (s.time.stamp - r'.core.lastStamp).toNat ≤ (s.time.stamp - r.core.lastStamp).toNat ∧
        (i < slot → (s.time.stamp - r'.core.lastStamp).toNat < (s.time.stamp - r.core.lastStamp).toNat)) →
      ∃ t, exec .takeReport s = .next t ∧
        CheckedInto slot
          { core :=
              { key := k, region := region, hits := 1, kinds := rep.kind.bit, firstStamp := s.time.stamp
                lastStamp := s.time.stamp, firstMaster := rep.master, lastMaster := rep.master
                syndrome := rep.syndrome, version := 0, codeAgrees := true }
            mode := .counting, pinned := false, hitsSinceVerdict := 1, softVerdicts := 0
            lastVerdict := .none, hardReason := none }
          (b.withCounts r.core.region { b.engine.regions[r.core.region].counts with
            evictions := satInc b.engine.regions[r.core.region].counts.evictions }) t) ∧
    ((∀ (i : CSlot) (r : CRecord), s.engine.cTable[i] = some r → r.mode ≠ .counting ∨ r.pinned = true) →
      let u := b.withCounts region { b.engine.regions[region].counts with
        unrecorded := satInc b.engine.regions[region].counts.unrecorded }
      (s.engine.cFullArmed = false → exec .takeReport s = .next u) ∧
      (s.engine.cFullArmed = true → exec .takeReport s = .next
        (post (.tableFull k region) false { u with engine := { u.engine with cFullArmed := false } })))

/-- Muted or not, the S-record receives the report update; an OPEN record gets nothing more; a SETTLED one becomes
OPEN and a SEVERE notice with the repeat flag set is posted for it under its region's severe class. (R19, R11, R44) -/
def Obligations.SevereReportOnSRecord : Prop :=
  ∀ (s : State) (ix : PortIx) (rep : Report) (k : Key) (region : RegionIx) (slot : SSlot) (r : SRecord),
    ReportDue ix rep s → Admitted ix rep k region s → rep.kind.severe = true → HeldInS k slot r s →
    let r' : SRecord :=
      { r with core := { r.core.updated rep s.time.stamp with codeAgrees := true }, mode := .opened }
    let t := (acceptedReport ix region s).withS slot r'
    (r.mode = .opened → exec .takeReport s = .next t) ∧
    (r.mode = .settled → exec .takeReport s = .next (postSevere (.s slot) r'.core true t))

/-- The S-record carries the C-record's common fields with the report update applied, its version advanced once; it is
OPEN, origin PROMOTED. The C slot is free, the pinned count falls by one if it was pinned, the C-full flag is re-
armed, the record's job is withdrawn, and then a SEVERE notice without the repeat flag is posted under its region's
severe class. The withdrawal takes the job out of the queue and out of the order of ANSWERED jobs, and hands a cancel
request for its tag to the port it is offered to, or IN_FLIGHT on with no cancel requested; with no job for the record
it changes nothing. (R20, R11, R18, R121) -/
def Obligations.SevereReportPromotesCRecord : Prop :=
  (∀ (s : State) (slot : CSlot),
    ((∀ j ∈ s.sched.jobs, j.slot ≠ slot) → withdraw slot s = s) ∧
    ∀ before j after, JobAt before j after s → j.slot = slot →
      let gone := { s with
        sched := { s.sched with
          jobs := before ++ after, answered := s.sched.answered.filter fun k => k != slot } }
      withdraw slot s =
        match j.mode with
        | .queued (some (ix, tag)) => gone.withHandover ix (.cancel tag)
        | .inFlight ix tag _ none => gone.withHandover ix (.cancel tag)
        | _ => gone) ∧
  ∀ (s : State) (ix : PortIx) (rep : Report) (k : Key) (region : RegionIx) (slot : CSlot) (r : CRecord)
    (free : SSlot),
    ReportDue ix rep s → Admitted ix rep k region s → rep.kind.severe = true → HeldInC k slot r s →
    LowestFreeS free s →
    let core := { r.core.updated rep s.time.stamp with codeAgrees := true }
    let moved := (acceptedReport ix region s).withS free { core := core, mode := .opened, origin := .promoted }
    exec .takeReport s = .next (postSevere (.s free) core false
      (withdraw slot { moved with
        engine := { moved.engine with
          cTable := s.engine.cTable.set slot.val none
          pinnedCount := s.engine.pinnedCount - (if r.pinned then 1 else 0)
          cFullArmed := true } }))

/-- Where no record holds the key and an S slot is free, the lowest one takes a record with the report's key and
region, OPEN, origin NEW, hits 1, the one kind, both stamps those of the take, masters and syndrome as carried,
version 0; then a SEVERE notice without the repeat flag is posted under its region's severe class. (R22, R2, R23) -/
def Obligations.SevereReportCreatesRecord : Prop :=
  ∀ (s : State) (ix : PortIx) (rep : Report) (k : Key) (region : RegionIx) (free : SSlot),
    ReportDue ix rep s → Admitted ix rep k region s → rep.kind.severe = true → KeyAbsent k s →
    LowestFreeS free s →
    let core : RecordCore :=
      { key := k, region := region, hits := 1, kinds := rep.kind.bit, firstStamp := s.time.stamp
        lastStamp := s.time.stamp, firstMaster := rep.master, lastMaster := rep.master
        syndrome := rep.syndrome, version := 0, codeAgrees := true }
    exec .takeReport s = .next (postSevere (.s free) core false
      ((acceptedReport ix region s).withS free { core := core, mode := .opened, origin := .created }))

/-- Where no S-record holds the key and every S slot is occupied, no record and no job changes; the report's region's
unrecorded counter rises, an S_OVERFLOW notice is posted, and the escalation unit takes an S_OVERFLOW cause with the
key and, where the notice entered, its sequence number. (R21, R22, R42) -/
def Obligations.SevereReportWithoutRoom : Prop :=
  ∀ (s : State) (ix : PortIx) (rep : Report) (k : Key) (region : RegionIx),
    ReportDue ix rep s → Admitted ix rep k region s → rep.kind.severe = true →
    (∀ (i : SSlot) (r : SRecord), s.engine.sTable[i] = some r → r.core.key ≠ k) →
    (∀ i : SSlot, s.engine.sTable[i] ≠ none) →
    let a := acceptedReport ix region s
    let u := a.withCounts region { a.engine.regions[region].counts with
      unrecorded := satInc a.engine.regions[region].counts.unrecorded }
    exec .takeReport s = .next
      (takeCause .sOverflow (if s.notices.entries.length < 16 then some s.notices.nextSeq else none) (some k)
        (post (.sOverflow k region) false u))

/-- The job leaves the queue and the order of ANSWERED jobs. The record's version advances by one, hits since verdict
becomes 0, soft verdicts rise by one up to 15, last verdict is CLEAN; it is COUNTING without hard reason, or, where
its region's soft limit is not 0 and is reached, HARD with REPEATED_SOFT, and a HARD notice is posted. PERSISTS makes
it HARD with PERSISTS, its counts as they were, its version advanced by one, and posts a HARD notice. Nothing else
changes. (R117, R118, R119, R63) -/
def Obligations.CleanAndPersistsAnswersApplied : Prop :=
  ∀ (s : State) (before : List Job) (j : Job) (after : List Job) (rest : List CSlot) (r : CRecord),
    (AnswerDue before j after rest r .clean s →
    let limit := s.engine.regions[r.core.region].policy.softLimit
    let soft : BitVec 4 := if r.softVerdicts = 15 then 15 else r.softVerdicts + 1
    let r' : CRecord := { r with
      core := { r.core with version := r.core.version + 1, codeAgrees := true }
      hitsSinceVerdict := 0, softVerdicts := soft, lastVerdict := .clean, mode := .counting
      hardReason := none }
    let done := { s with sched := { s.sched with jobs := before ++ after, answered := rest } }
    (limit = 0 ∨ soft < limit → exec .takeAnsweredJob s = .next (done.withC j.slot r')) ∧
    (limit ≠ 0 → limit ≤ soft →
      exec .takeAnsweredJob s = .next
        (post (.hard (.c j.slot) (r.core.version + 1) r.core.key r.core.region) false
          (done.withC j.slot { r' with mode := .hard, hardReason := some .repeatedSoft })))) ∧
    (AnswerDue before j after rest r .persists s →
      let done := { s with sched := { s.sched with jobs := before ++ after, answered := rest } }
      exec .takeAnsweredJob s = .next
        (post (.hard (.c j.slot) (r.core.version + 1) r.core.key r.core.region) false
          (done.withC j.slot { r with
            core := { r.core with version := r.core.version + 1, codeAgrees := true }
            mode := .hard, hardReason := some .persists, lastVerdict := .persists })))

/-- Attempts rise by one. Below the retry limit the job is QUEUED again at the tail of its class and the record is not
changed; at the limit the job leaves the queue, and the record becomes UNVERIFIED, last verdict EXHAUSTED, hits since
verdict 0, no hard reason, version advanced by one, and a VERIFY_FAILED notice is posted. TAKE_ANSWERED_JOB with no
job ANSWERED or an engine command pending changes nothing (R63, log entry 1). (R63, R117, R120, R105) -/
def Obligations.FailedAnswerApplied : Prop :=
  ∀ (s : State),
    (s.held = false → s.sched.answered = [] ∨ (∃ c, s.win.command = some ⟨c, .engine⟩) →
      exec .takeAnsweredJob s = .next s) ∧
    ∀ (before : List Job) (j : Job) (after : List Job) (rest : List CSlot) (r : CRecord),
      AnswerDue before j after rest r .failed s →
      let done := { s with sched := { s.sched with jobs := before ++ after, answered := rest } }
      (s.win.settings.retryLimit.toNat ≤ j.attempts.toNat + 1 →
        exec .takeAnsweredJob s = .next
          (post (.verifyFailed (.c j.slot) (r.core.version + 1) r.core.key r.core.region) false
            (done.withC j.slot { r with
              core := { r.core with version := r.core.version + 1, codeAgrees := true }
              mode := .unverified, hardReason := none, lastVerdict := .exhausted, hitsSinceVerdict := 0 }))) ∧
      (j.attempts.toNat + 1 < s.win.settings.retryLimit.toNat →
        let again := { j with attempts := j.attempts + 1, mode := .queued none }
        ∀ urgents normals, before ++ after = urgents ++ normals → (∀ k ∈ urgents, k.cls = .urgent) →
          (∀ k ∈ normals, k.cls = .normal) →
          exec .takeAnsweredJob s = .next { s with
            sched := { s.sched with
              jobs := if j.cls = .urgent then urgents ++ again :: normals else urgents ++ normals ++ [again]
              answered := rest } })

/-- In RUN, where the port is READY, holds no tag but one whose cancel request it has still to take, has no job
offered to it and no dispatch still to take, the first QUEUED job without an offer whose memory the port owns is
offered to it with the tag counter's value; the counter advances by one modulo 16 and the port is handed the dispatch
with the memory id and the address of the granule's first byte. Where one of these fails, nothing changes (log entry
1). That a cancel request still to be taken is read from the list of hand-overs is log entry 14; the job's name in the
dispatch is the model's own (log entry 22). A dispatch that the port has not taken keeps every other job from being
offered, also where the job it names has been withdrawn (R108). (R107, R108, R1, R105) -/
def Obligations.DispatchOffersFirstJob : Prop :=
  ∀ (s : State) (ix : PortIx), s.held = false →
    let free := s.ports[ix].mode = .ready ∧
      (∀ tag, s.ports[ix].outstanding = some tag → Handover.cancel tag ∈ s.sched.handovers[ix]) ∧
      ∀ j ∈ s.sched.jobs, ∀ tag, j.mode ≠ .queued (some (ix, tag))
    let untaken := ∃ id tag m a, Handover.dispatch id tag m a ∈ s.sched.handovers[ix]
    let waits := fun j : Job => j.mode = .queued none ∧ s.engine.memories[j.key.mem].owner = some ix
    (s.engine.mode = .config ∨ ¬ free ∨ untaken ∨ (∀ j ∈ s.sched.jobs, ¬ waits j) →
      exec (.dispatch ix) s = .next s) ∧
    ∀ before j after, JobAt before j after s → s.engine.mode = .run → free → ¬ untaken → waits j →
      (∀ k ∈ before, ¬ waits k) →
      exec (.dispatch ix) s = .next ({ s with
        sched := { s.sched with
          jobs := before ++ { j with mode := .queued (some (ix, s.sched.tagCounters[ix])) } :: after
          tagCounters := s.sched.tagCounters.set ix.val (s.sched.tagCounters[ix] + 1) } }.withHandover ix
        (.dispatch j.id s.sched.tagCounters[ix] j.key.mem
          (BitVec.ofNat 32 (j.key.granule.toNat * s.engine.memories[j.key.mem].granuleSize.bytes))))

/-- The port takes the head hand-over where it is a dispatch. READY with no tag, it holds the tag, produces VERIFY,
and the job the dispatch names, offered to the port with the tag, becomes IN_FLIGHT with its verify deadline armed.
Otherwise it refuses: the offer is dropped, the job keeping its place. With the job named no longer in the queue no
job changes (how a dispatch names its job: log entry 22). With no dispatch at the head nothing changes (log entry 1).
(R93, R109, R110) -/
def Obligations.TakeDispatchFliesOrRefuses : Prop :=
  ∀ (s : State) (ix : PortIx), s.held = false →
    ((∀ id tag m a, s.sched.handovers[ix].head? ≠ some (.dispatch id tag m a)) →
      exec (.takeDispatch ix) s = .next s) ∧
    ∀ id tag m a rest, s.sched.handovers[ix] = .dispatch id tag m a :: rest →
      let popped := { s with sched := { s.sched with handovers := s.sched.handovers.set ix.val rest } }
      let sent := popped.withPort ix
        (({ s.ports[ix] with outstanding := some tag } : Port).produce (.verify tag m a))
      let accepts := s.ports[ix].mode = .ready ∧ s.ports[ix].outstanding = none
      let named := fun j : Job => j.id = id ∧ j.mode = .queued (some (ix, tag))
      ((∀ j ∈ s.sched.jobs, ¬ named j) →
        (accepts → exec (.takeDispatch ix) s = .next sent) ∧
        (¬ accepts → exec (.takeDispatch ix) s = .next popped)) ∧
      ∀ before j after, JobAt before j after s → named j → (∀ k ∈ before, ¬ named k) →
        (accepts → exec (.takeDispatch ix) s = .next (sent.withJobs (before ++ { j with
          mode := .inFlight ix tag
            (some (s.time.stamp + s.win.settings.verifyTimeout.setWidth 32)) none } :: after))) ∧
        (¬ accepts → exec (.takeDispatch ix) s = .next
          (popped.withJobs (before ++ { j with mode := .queued none } :: after)))

/-- PREEMPT, in RUN, where an URGENT job waits for the port and none is IN_FLIGHT on it or offered to it, marks the
NORMAL job IN_FLIGHT there with no cancel requested PREEMPTED; VERIFY_TIMEOUT marks the job whose verify deadline is
reached TIMED_OUT. Either makes the deadline absent and hands the port a cancel request for the tag. In every other
case nothing changes (log entry 1). (R112, R114, R56) -/
def Obligations.PreemptAndVerifyTimeout : Prop :=
  ∀ (s : State), s.held = false →
    (∀ (ix : PortIx) before j after tag d, JobAt before j after s → j.mode = .inFlight ix tag d none →
      j.cls = .normal →
      (∀ k ∈ before, ∀ tag d, ¬ (k.cls = .normal ∧ k.mode = .inFlight ix tag d none)) →
      let wanted := (∃ u ∈ s.sched.jobs, u.cls = .urgent ∧ u.mode = .queued none ∧
          s.engine.memories[u.key.mem].owner = some ix) ∧
        ∀ u ∈ s.sched.jobs, u.cls = .urgent → ∀ tag,
          u.mode ≠ .queued (some (ix, tag)) ∧ ∀ d c, u.mode ≠ .inFlight ix tag d c
      (s.engine.mode = .run → wanted → exec (.preempt ix) s = .next
        ((s.withJobs (before ++ { j with mode := .inFlight ix tag none (some .preempted) } ::
          after)).withHandover ix (.cancel tag))) ∧
      (s.engine.mode = .config ∨ ¬ wanted → exec (.preempt ix) s = .next s)) ∧
    (∀ ix : PortIx, (∀ j ∈ s.sched.jobs, ∀ tag d, ¬ (j.cls = .normal ∧ j.mode = .inFlight ix tag d none)) →
      exec (.preempt ix) s = .next s) ∧
    (∀ before j after ix tag d c, JobAt before j after s → j.mode = .inFlight ix tag (some d) c →
      ((s.time.stamp - d).toNat < 2 ^ 31 → exec (.verifyTimeout j.slot) s = .next
        ((s.withJobs (before ++ { j with mode := .inFlight ix tag none (some .timedOut) } ::
          after)).withHandover ix (.cancel tag))) ∧
      (2 ^ 31 ≤ (s.time.stamp - d).toNat → exec (.verifyTimeout j.slot) s = .next s)) ∧
    ∀ slot : CSlot, (∀ j ∈ s.sched.jobs, j.slot = slot → ∀ ix tag d c, j.mode ≠ .inFlight ix tag (some d) c) →
      exec (.verifyTimeout slot) s = .next s

/-- The port takes the head hand-over where it is a cancel request; with none at the head nothing changes (log entry
1). A tag that is not outstanding changes nothing more. An outstanding tag is cleared and CANCEL produced; the job
IN_FLIGHT with it, marked TIMED_OUT, becomes ANSWERED with FAILED behind those already ANSWERED, marked PREEMPTED (it
is NORMAL) returns to QUEUED at the head of the NORMAL class; with no such job none changes. (R94, R113, R110) -/
def Obligations.CancelRequestOutcome : Prop :=
  ∀ (s : State) (ix : PortIx), s.held = false →
    ((∀ tag, s.sched.handovers[ix].head? ≠ some (.cancel tag)) → exec (.cancelRequest ix) s = .next s) ∧
    ∀ tag rest, s.sched.handovers[ix] = .cancel tag :: rest →
      let popped := { s with sched := { s.sched with handovers := s.sched.handovers.set ix.val rest } }
      let sent := popped.withPort ix
        (({ s.ports[ix] with outstanding := none } : Port).produce (.cancel tag))
      (s.ports[ix].outstanding ≠ some tag → exec (.cancelRequest ix) s = .next popped) ∧
      (s.ports[ix].outstanding = some tag →
        ((∀ j ∈ s.sched.jobs, ∀ d c, j.mode ≠ .inFlight ix tag d c) →
          exec (.cancelRequest ix) s = .next sent) ∧
        ∀ before j after d, JobAt before j after s → (∀ k ∈ before, ∀ d c, k.mode ≠ .inFlight ix tag d c) →
          (j.mode = .inFlight ix tag d (some .timedOut) →
            exec (.cancelRequest ix) s = .next { sent with
              sched := { sent.sched with
                jobs := before ++ { j with mode := .answered ix tag .failed } :: after
                answered := s.sched.answered ++ [j.slot] } }) ∧
          ∀ urgents normals, before ++ after = urgents ++ normals → (∀ k ∈ urgents, k.cls = .urgent) →
            (∀ k ∈ normals, k.cls = .normal) → j.cls = .normal →
            j.mode = .inFlight ix tag d (some .preempted) →
            exec (.cancelRequest ix) s = .next
              (sent.withJobs (urgents ++ { j with mode := .queued none } :: normals)))

/-- The return of the tag of a job IN_FLIGHT on a port makes that job QUEUED without an offer at the head of its
class, attempts unchanged, tag, port, deadline and cancel mark dropped. The return of a tag that no job IN_FLIGHT on
that port has changes nothing. (R116, R105, R110) -/
def Obligations.ReturnedJobHeadsItsClass : Prop :=
  ∀ (s : State) (ix : PortIx) (tag : Tag),
    ((∀ j ∈ s.sched.jobs, ∀ d c, j.mode ≠ .inFlight ix tag d c) → returnJob ix tag s = s) ∧
    ∀ before j after d c, JobAt before j after s → j.mode = .inFlight ix tag d c →
      (∀ k ∈ before, ∀ d c, k.mode ≠ .inFlight ix tag d c) →
      ∀ urgents normals, before ++ after = urgents ++ normals → (∀ k ∈ urgents, k.cls = .urgent) →
        (∀ k ∈ normals, k.cls = .normal) →
        returnJob ix tag s = s.withJobs
          (if j.cls = .urgent then { j with mode := .queued none } :: (urgents ++ normals)
            else urgents ++ { j with mode := .queued none } :: normals)

/-- A HELLO that completes in LISTEN or READY: the port is READY, expects the number given, has no last accepted
number, holds the reporter id word, produces WELCOME, and ends the frame under reception; an outstanding tag is
cleared and its job returned. In HALTED the port answers NAK HALTED. With no frame under reception nothing changes
(R80, log entry 11). Queue, counters and tag counter stay. (R80, R84, R85, R88, R95, section 5.4) -/
def Obligations.HelloOpensOrRestartsLink : Prop :=
  ∀ (s : State) (ix : PortIx) (next : Byte) (reporter : Word),
    let p := s.ports[ix]
    let linked := s.withPort ix (({ p with
      rx := none, mode := .ready, expected := next, lastAccepted := none, reporterId := some reporter
      outstanding := none } : Port).produce (.welcome ix next))
    (Receiving ix .listen s ∨ Receiving ix .ready s →
      (p.outstanding = none → exec (.hello ix next reporter) s = .next linked) ∧
      ∀ tag, p.outstanding = some tag →
        exec (.hello ix next reporter) s = .next (returnJob ix tag linked)) ∧
    (Receiving ix .halted s → exec (.hello ix next reporter) s = .next
      (s.withPort ix (({ p with rx := none } : Port).produce (.nak 0 .halted)))) ∧
    (s.held = false → p.rx = none → exec (.hello ix next reporter) s = .next s)

/-- In READY: a repeat of the last accepted number is acknowledged again and not entered; another number than the
expected one is counted and answered NAK SEQUENCE; a kind that is none of the five, a memory id above 15 or an address
outside the memory gives NAK RANGE; a memory of another owner NAK FOREIGN; a queue of 4 NAK BUSY; otherwise the report
enters the queue's tail, the last accepted and expected numbers advance and ACK is produced. Nothing but the port
changes. (R86, R87, R178) -/
def Obligations.ReportFrameInReadyIsChecked : Prop :=
  ∀ (s : State) (ix : PortIx) (f : ReportFrame), Receiving ix .ready s →
    let p : Port := { s.ports[ix] with rx := none }
    (p.lastAccepted = some f.seq →
      exec (.report ix f) s = .next (s.withPort ix (p.produce (.ack f.seq)))) ∧
    (p.lastAccepted ≠ some f.seq → f.seq ≠ p.expected →
      exec (.report ix f) s = .next (s.withPort ix
        (({ p with sequenceErrors := satInc p.sequenceErrors } : Port).produce (.nak f.seq .sequence)))) ∧
    (p.lastAccepted ≠ some f.seq → f.seq = p.expected →
      ((f.kind = 0 ∨ 5 < f.kind.toNat ∨ 15 < f.mem.toNat) →
        exec (.report ix f) s = .next (s.withPort ix (p.produce (.nak f.seq .range)))) ∧
      ∀ (kind : Kind) (m : MemId), f.kind.toNat =
          (match kind with | .corr1 => 1 | .corrM => 2 | .scrub => 3 | .uncorr => 4 | .addrChk => 5) →
        f.mem.toNat = m.val →
        let entry := s.engine.memories[m]
        (entry.size ≤ f.addr.toNat / entry.granuleSize.bytes →
          exec (.report ix f) s = .next (s.withPort ix (p.produce (.nak f.seq .range)))) ∧
        (f.addr.toNat / entry.granuleSize.bytes < entry.size →
          (entry.owner ≠ some ix →
            exec (.report ix f) s = .next (s.withPort ix (p.produce (.nak f.seq .foreign)))) ∧
          (entry.owner = some ix → 4 ≤ p.queue.length →
            exec (.report ix f) s = .next (s.withPort ix (p.produce (.nak f.seq .busy)))) ∧
          (entry.owner = some ix → p.queue.length < 4 →
            exec (.report ix f) s = .next (s.withPort ix
              (({ p with
                queue := p.queue ++ [{ seq := f.seq, kind := kind, mem := m, addr := f.addr
                                       master := f.master.map fun b => b.setWidth 6
                                       syndrome := f.syndrome }]
                lastAccepted := some f.seq
                expected := f.seq + 1 } : Port).produce (.ack f.seq))))))

/-- In READY, a VERDICT with the outstanding tag and result CLEAN, PERSISTS or UNREACHABLE clears the tag, and the job
IN_FLIGHT with it becomes ANSWERED with CLEAN, PERSISTS or FAILED in its place and joins the end of the order of
ANSWERED jobs; no frame is sent. Any other VERDICT raises the stale verdict counter and leaves the tag. (R91, R92,
R111) -/
def Obligations.VerdictMatchesOrIsStale : Prop :=
  ∀ (s : State) (ix : PortIx) (tag result : Byte), Receiving ix .ready s →
    let p := s.ports[ix]
    ((∀ t, p.outstanding = some t → tag.toNat ≠ t.toNat) ∨ result = 0 ∨ 3 < result.toNat →
      exec (.verdict ix tag result) s = .next
        (s.withPort ix { p with rx := none, staleVerdicts := satInc p.staleVerdicts })) ∧
    ∀ (t : Tag) (a : Answer), p.outstanding = some t → tag.toNat = t.toNat →
      result.toNat = (match a with | .clean => 1 | .persists => 2 | .failed => 3) →
      let cleared := s.withPort ix { p with rx := none, outstanding := none }
      ((∀ j ∈ s.sched.jobs, ∀ d c, j.mode ≠ .inFlight ix t d c) →
        exec (.verdict ix tag result) s = .next cleared) ∧
      ∀ before j after d c, JobAt before j after s → j.mode = .inFlight ix t d c →
        (∀ k ∈ before, ∀ d c, k.mode ≠ .inFlight ix t d c) →
        exec (.verdict ix tag result) s = .next { cleared with
          sched := { s.sched with
            jobs := before ++ { j with mode := .answered ix t a } :: after
            answered := s.sched.answered ++ [j.slot] } }

/-- A REPORT in LISTEN is answered NAK NOT_READY and in HALTED NAK HALTED, and does not enter the queue; a VERDICT in
LISTEN or HALTED is discarded without counting (R92). The frame under reception ends and nothing else changes. REPORT,
VERDICT, BAD_FRAME and FRAME_TIMEOUT on a port with no frame under reception change nothing (log entries 1 and 11).
(R79, R80, R82, R88, R92) -/
def Obligations.FramesOutsideReady : Prop :=
  ∀ (s : State) (ix : PortIx) (f : ReportFrame) (tag result : Byte) (bits : List Bool),
    let p : Port := { s.ports[ix] with rx := none }
    (Receiving ix .listen s →
      exec (.report ix f) s = .next (s.withPort ix (p.produce (.nak f.seq .notReady))) ∧
      exec (.verdict ix tag result) s = .next (s.withPort ix p)) ∧
    (Receiving ix .halted s →
      exec (.report ix f) s = .next (s.withPort ix (p.produce (.nak f.seq .halted))) ∧
      exec (.verdict ix tag result) s = .next (s.withPort ix p)) ∧
    (s.held = false → s.ports[ix].rx = none →
      exec (.report ix f) s = .next s ∧ exec (.verdict ix tag result) s = .next s ∧
      exec (.badFrame ix bits) s = .next s ∧ exec (.frameTimeout ix) s = .next s)

/-- Bits that make a bad frame, the reach of the frame timeout deadline, and a low period longer than 12 bit times
each end the frame under reception and raise the check error counter. With halt-on-error set in LISTEN or READY the
port becomes HALTED, an outstanding tag is cleared and its job returned, and a PORT_HALTED notice is posted. Where the
low period is of 64 to 65536 clock periods, a new frame comes under reception from it, with a deadline and a bit time
of its own; otherwise the port ignores the lane until it has been high for the ended frame's bit time (log entry 23,
as is how bits after a low stop bit are read). An incomplete frame (log entry 15), a deadline not reached (log entry
1) and a low period within 12 bit times (log entry 12) change nothing. (R80, R81, R82, R95, R176) -/
def Obligations.BadFramesAreCountedAndHalt : Prop :=
  ∀ (s : State) (ix : PortIx) (i : Instr) (frame : Reception), s.held = false → s.ports[ix].mode ≠ .down →
    s.ports[ix].rx = some frame →
    ((∃ bits, i = .badFrame ix bits ∧ receive (bytesOnLane bits) = .incomplete) ∨
      (i = .frameTimeout ix ∧ 2 ^ 31 ≤ (s.time.stamp - frame.deadline).toNat) ∨
      (∃ high low, (i = .startDelimiter ix ⟨high, low⟩ ∨ i = .longLowPeriod ix ⟨high, low⟩) ∧
        low ≤ 12 * frame.bitTime) → exec i s = .next s) ∧
    ∀ (rx : Option Reception) (ignoring bitTime : Option Clocks),
      (((∃ bits, i = .badFrame ix bits ∧ receive (bytesOnLane bits) = .bad) ∨
          (i = .frameTimeout ix ∧ (s.time.stamp - frame.deadline).toNat < 2 ^ 31)) ∧
        rx = none ∧ ignoring = s.ports[ix].ignoring ∧ bitTime = s.ports[ix].bitTime) ∨
      (∃ high low, i = .longLowPeriod ix ⟨high, low⟩ ∧ 12 * frame.bitTime < low ∧ (low < 64 ∨ 65536 < low) ∧
        rx = none ∧ ignoring = some frame.bitTime ∧ bitTime = s.ports[ix].bitTime) ∨
      (∃ high low, (i = .startDelimiter ix ⟨high, low⟩ ∨ i = .longLowPeriod ix ⟨high, low⟩) ∧
        12 * frame.bitTime < low ∧ 64 ≤ low ∧ low ≤ 65536 ∧
        rx = some { deadline := s.time.stamp + s.win.settings.frameTimeout.setWidth 32, bitTime := low / 16 } ∧
        ignoring = none ∧ bitTime = some (low / 16)) →
      let p : Port := { s.ports[ix] with
        rx := rx, ignoring := ignoring, bitTime := bitTime, checkErrors := satInc s.ports[ix].checkErrors }
      let halted := s.withPort ix { p with mode := .halted, outstanding := none }
      (p.haltOnError = false ∨ p.mode = .halted → exec i s = .next (s.withPort ix p)) ∧
      (p.haltOnError = true → p.mode ≠ .halted → p.outstanding = none →
        exec i s = .next (post (.portHalted ix) false halted)) ∧
      ∀ tag, p.haltOnError = true → p.mode ≠ .halted → p.outstanding = some tag →
        exec i s = .next (post (.portHalted ix) false (returnJob ix tag halted))

/-- With no frame under reception and the port not DOWN, a low period of 64 to 65536 clock periods puts a frame under
reception with the frame timeout armed and a bit time of one sixteenth of the period; a shorter one changes nothing,
and so does a longer one (log entry 12), but that the port no longer ignores the lane. While the port ignores the
lane, a low period after a high period shorter than the bit time of the frame ended changes nothing (log entry 23). In
DOWN a low period changes nothing. A frame produced begins at once where none is being sent, at the port's bit time
(log entry 16), and otherwise waits behind those produced before it. OUTBOUND_FRAME_SENT ends the frame being sent
and, in the same happening, begins the oldest one waiting (log entry 16); with none being sent it changes nothing (log
entry 1). The lane carries the frame being sent: 16 bit times low, at least one high, then each byte's ten bits; it is
held high while none is being sent and while either reset input is asserted. (R80, R83, R176) -/
def Obligations.LowPeriodsAndOutboundFrames : Prop :=
  ∀ (s : State) (ix : PortIx),
    (s.held = true → s.txHeldHigh ix = true ∧ ∀ extra, s.txBits ix extra = []) ∧
    (s.held = false →
      let p := s.ports[ix]
      (∀ (high low : Clocks) (i : Instr), i = .startDelimiter ix ⟨high, low⟩ ∨ i = .longLowPeriod ix ⟨high, low⟩ →
        (p.mode = .down → exec i s = .next s) ∧
        (p.mode ≠ .down → p.rx = none →
          (∀ b, p.ignoring = some b → high < b → exec i s = .next s) ∧
          ((∀ b, p.ignoring = some b → b ≤ high) →
            (64 ≤ low → low ≤ 65536 → exec i s = .next (s.withPort ix { p with
              rx := some { deadline := s.time.stamp + s.win.settings.frameTimeout.setWidth 32
                           bitTime := low / 16 }
              ignoring := none
              bitTime := some (low / 16) })) ∧
            (low < 64 ∨ 65536 < low → exec i s = .next (s.withPort ix { p with ignoring := none }))))) ∧
      (p.sending = none → exec (.outboundFrameSent ix) s = .next s ∧ s.txHeldHigh ix = true ∧
        ∀ f, p.produce f = { p with sending := some { frame := f, bitTime := p.bitTime } }) ∧
      ∀ g, p.sending = some g →
        (∀ f, p.produce f = { p with waiting := p.waiting ++ [f] }) ∧
        s.txHeldHigh ix = false ∧
        (∀ extra, s.txBits ix extra =
          List.replicate 16 false ++ List.replicate (1 + extra) true ++ g.frame.bytes.flatMap byteBits) ∧
        (p.waiting = [] → exec (.outboundFrameSent ix) s = .next (s.withPort ix { p with sending := none })) ∧
        ∀ f rest, p.waiting = f :: rest →
          exec (.outboundFrameSent ix) s = .next (s.withPort ix { p with
            sending := some { frame := f, bitTime := p.bitTime }, waiting := rest }))

/-- SET_PORT always ends with OK and sets the halt-on-error flag. Enable set: DOWN becomes LISTEN, any other state
stays. Enable clear: any state but DOWN becomes DOWN, the queue is flushed and counted, a frame under reception is
abandoned, frames not begun are discarded while a frame being sent is kept (R83), and an outstanding tag is cleared
and its job returned; DOWN stays DOWN. The entry to DOWN also forgets the port's latest bit time, while the frame
being sent keeps its own (R176; log entry 16, DEDUCED), and ends the ignoring of the lane (R176; log entry 23,
DEDUCED). Nothing else changes. (R96, R97, R89, R95, R83, R176) -/
def Obligations.SetPortEnablesAndDisables : Prop :=
  ∀ (s : State) (ix : PortIx), Waiting .setPort (.port ix) s →
    let w := s.win.params[1]
    let p : Port := { s.ports[ix] with haltOnError := w.getLsbD 1 }
    let off := s.withPort ix { p with
      mode := .down, queue := [], flushed := BitVec.ofNat 8 (min 255 (p.flushed.toNat + p.queue.length))
      rx := none, ignoring := none, bitTime := none, waiting := [], outstanding := none }
    (w.getLsbD 0 = true → p.mode = .down →
      exec .setPort s = .next (complete .ok none (s.withPort ix { p with mode := .listen }))) ∧
    ((w.getLsbD 0 = true ↔ p.mode ≠ .down) →
      exec .setPort s = .next (complete .ok none (s.withPort ix p))) ∧
    (w.getLsbD 0 = false → p.mode ≠ .down → p.outstanding = none →
      exec .setPort s = .next (complete .ok none off)) ∧
    ∀ tag, w.getLsbD 0 = false → p.mode ≠ .down → p.outstanding = some tag →
      exec .setPort s = .next (complete .ok none (returnJob ix tag off))

/-- In HALTED the port enters LISTEN and the command ends with OK, everything else of the port and every notice kept,
and a HELLO received then opens the link (READY, WELCOME); in DOWN, LISTEN or READY the command ends with
REFUSED_STATE and changes nothing. (R98) -/
def Obligations.RestartPortLeavesHalted : Prop :=
  ∀ (s : State) (ix : PortIx), Waiting .restartPort (.port ix) s →
    (s.ports[ix].mode = .halted →
      let t := complete .ok none (s.withPort ix { s.ports[ix] with mode := .listen })
      exec .restartPort s = .next t ∧
      ∀ (next : Byte) (reporter : Word), t.ports[ix].rx ≠ none → t.ports[ix].outstanding = none →
        exec (.hello ix next reporter) t = .next (t.withPort ix (({ t.ports[ix] with
          rx := none, mode := .ready, expected := next, lastAccepted := none
          reporterId := some reporter } : Port).produce (.welcome ix next)))) ∧
    (s.ports[ix].mode ≠ .halted → exec .restartPort s = .next (complete .refusedState none s))

/-- In every port state FLUSH_PORT ends with OK, the queue is empty, the number of reports it held is added to the
flushed counter, saturating at 255, and nothing else of the port or the part changes but the completion. (R99) -/
def Obligations.FlushPortEmptiesQueue : Prop :=
  ∀ (s : State) (ix : PortIx), Waiting .flushPort (.port ix) s →
    exec .flushPort s = .next (complete .ok none (s.withPort ix { s.ports[ix] with
      queue := []
      flushed := BitVec.ofNat 8 (min 255 (s.ports[ix].flushed.toNat + s.ports[ix].queue.length)) }))

/-- With fewer than 16 queued, a notice enters at the tail with the next sequence number, the stamp and, where it
carries one, the acknowledge window's deadline. With 16 it is lost and the lost count rises, up to 255; a lost notice
with a deadline hands an UNPOSTABLE cause with its key. A SEVERE notice carries a deadline in class DEADLINE only; in
class IMMEDIATE an IMMEDIATE cause follows, with the notice's number where it entered. The kinds that carry a key copy
are those of Table 7-3. (R23, R128, R129, R131, R132, section 7.2) -/
def Obligations.PostEntersOrLosesNotice : Prop :=
  (∀ body : NoticeBody, body.key =
    match body with
    | .severe _ _ k _ _ => some k | .hard _ _ k _ => some k | .verifyFailed _ _ k _ => some k
    | .tableFull k _ => some k | .sOverflow k _ => some k
    | .burst _ => none | .portHalted _ => none | .lost _ => none | .resumed _ => none
    | .retentionLost _ => none) ∧
  ∀ (s : State) (body : NoticeBody) (dated : Bool),
    (s.notices.entries.length < 16 → post body dated s = { s with
      notices := { s.notices with
        entries := s.notices.entries ++ [{ seq := s.notices.nextSeq, body := body, stamp := s.time.stamp
                                           deadline := if dated then
                                             some (s.time.stamp + s.win.settings.ackWindow.setWidth 32)
                                             else none
                                           expired := false }]
        nextSeq := s.notices.nextSeq + 1 } }) ∧
    (16 ≤ s.notices.entries.length →
      let lost := { s with notices := { s.notices with
        lost := if s.notices.lost = 255 then 255 else s.notices.lost + 1 } }
      post body false s = lost ∧ post body true s = takeCause .unpostable none body.key lost) ∧
    ∀ (ref : RecRef) (core : RecordCore) (repeated : Bool),
      let severe := NoticeBody.severe ref core.version core.key core.region repeated
      match s.engine.regions[core.region].policy.severeClass with
      | .notice => postSevere ref core repeated s = post severe false s
      | .deadline => postSevere ref core repeated s = post severe true s
      | .immediate => postSevere ref core repeated s = takeCause .immediate
          (if s.notices.entries.length < 16 then some s.notices.nextSeq else none) (some core.key)
          (post severe false s)

/-- In CLEAR a cause becomes the first cause with the stamp of its take, the second is absent, the before-reset
indicator clear, the fault hold deadline armed unless the hold time is 0. In FAULT it becomes the second cause, the
first kept, the hold deadline absent. In RESET_PENDING nothing changes. Nothing outside the escalation unit changes.
RESET_REQ is asserted exactly in RESET_PENDING, FAULT exactly in FAULT and RESET_PENDING, INT exactly while an enabled
source (a notice queued, a completion unseen) holds it. (R145, R146, R147, R149, R140, R174) -/
def Obligations.CausesMoveEscalationAndLines : Prop :=
  ∀ (s : State) (kind : CauseKind) (seq : Option Word) (key : Option Key),
    let cause : Cause := { kind := kind, stamp := s.time.stamp, seq := seq, key := key }
    (s.esc.mode = .clear → takeCause kind seq key s = { s with
      esc := { mode := .fault, first := some cause, second := none, beforeReset := false
               holdDeadline := if s.win.settings.faultHold = 0 then none
                 else some (s.time.stamp + s.win.settings.faultHold.setWidth 32) } }) ∧
    (s.esc.mode = .fault → takeCause kind seq key s = { s with
      esc := { s.esc with mode := .resetPending, second := some cause, holdDeadline := none } }) ∧
    (s.esc.mode = .resetPending → takeCause kind seq key s = s) ∧
    (s.resetReqAsserted = true ↔ s.esc.mode = .resetPending) ∧
    (s.faultAsserted = true ↔ s.esc.mode = .fault ∨ s.esc.mode = .resetPending) ∧
    (s.intAsserted = true ↔ s.win.noticeEnable = true ∧ s.notices.entries ≠ [] ∨
      s.win.commandEnable = true ∧ s.win.unseen = true)

/-- With an empty queue ACK_NOTICE ends with NOT_FOUND; with another sequence number than the head's with MISMATCH;
otherwise the head leaves the queue with its deadline and the command ends with OK, and, where the lost count is above
0, a LOST notice with the count enters at the tail and the count returns to 0. Nothing else changes. While the part is
not held, NOTICE0 to NOTICE5 read 0 with an empty queue and otherwise show the head notice as Table 11-8 lays it out:
its number, kind and flags, its record, version, region and key where its kind carries them, a port or a count in
NOTICE3, the low word of its stamp, and 0 elsewhere. (R133, R134, R135, R138, section 11.6) -/
def Obligations.AckNoticeRemovesHead : Prop :=
  (∀ s : State, Waiting .ackNotice .notices s →
    (s.notices.entries = [] → exec .ackNotice s = .next (complete .notFound none s)) ∧
    ∀ n rest, s.notices.entries = n :: rest →
      (s.win.params[0] ≠ n.seq → exec .ackNotice s = .next (complete .mismatch none s)) ∧
      (s.win.params[0] = n.seq →
        (s.notices.lost = 0 → exec .ackNotice s = .next (complete .ok none { s with
          notices := { s.notices with entries := rest } })) ∧
        (s.notices.lost ≠ 0 → exec .ackNotice s = .next (complete .ok none { s with
          notices :=
            { entries := rest ++ [{ seq := s.notices.nextSeq, body := .lost s.notices.lost
                                    stamp := s.time.stamp, deadline := none, expired := false }]
              nextSeq := s.notices.nextSeq + 1, lost := 0 } })))) ∧
  ∀ s : State, s.held = false →
    (s.notices.entries = [] → ∀ a : BitVec 5, 0x13 ≤ a.toNat → a.toNat ≤ 0x18 → readRegister a s = 0) ∧
    ∀ n rest, s.notices.entries = n :: rest →
      let shows := fun (version : Byte) (record : Bool) (repeated : Bool) (kind : BitVec 4) (v2 v3 v4 : Word) =>
        readRegister 0x13 s = n.seq ∧
        readRegister 0x14 s = version ++ BitVec.ofBool record ++ BitVec.ofBool n.deadline.isSome ++
          BitVec.ofBool repeated ++ BitVec.ofBool n.expired ++ kind ∧
        readRegister 0x15 s = v2 ∧ readRegister 0x16 s = v3 ∧ readRegister 0x17 s = v4 ∧
        readRegister 0x18 s = n.stamp.extractLsb' 0 16
      let refBits : RecRef → Byte := fun ref =>
        match ref with
        | .c slot => 0#3 ++ BitVec.ofNat 5 slot.val
        | .s slot => 4#3 ++ BitVec.ofNat 5 slot.val
      let recordAt : RecRef → RegionIx → Key → Word := fun ref region k =>
        refBits ref ++ BitVec.ofNat 4 region.val ++ BitVec.ofNat 4 k.mem.val
      let low : Key → Word := fun k => k.granule.extractLsb' 0 16
      let high : Key → Word := fun k => 0#3 ++ k.granule.extractLsb' 16 13
      match n.body with
      | .severe ref v k region again => shows v true again 1 (recordAt ref region k) (low k) (high k)
      | .hard ref v k region => shows v true false 2 (recordAt ref region k) (low k) (high k)
      | .verifyFailed ref v k region => shows v true false 3 (recordAt ref region k) (low k) (high k)
      | .burst region => shows 0 false false 4 (0#8 ++ BitVec.ofNat 4 region.val ++ 0#4) 0 0
      | .tableFull k region =>
        shows 0 false false 5 (0#8 ++ BitVec.ofNat 4 region.val ++ BitVec.ofNat 4 k.mem.val) (low k) (high k)
      | .sOverflow k region =>
        shows 0 false false 6 (0#8 ++ BitVec.ofNat 4 region.val ++ BitVec.ofNat 4 k.mem.val) (low k) (high k)
      | .portHalted port => shows 0 false false 7 0 (BitVec.ofNat 16 port.val) 0
      | .lost count => shows 0 false false 8 0 (0#8 ++ count) 0
      | .resumed count => shows 0 false false 9 0 (0#8 ++ count) 0
      | .retentionLost count => shows 0 false false 10 0 (0#8 ++ count) 0

/-- The reached deadline of a queued notice sets its expired flag, makes its deadline absent and hands a DEADLINE
cause with its sequence number and key copy; the notice keeps its place. The reached fault hold deadline in FAULT
hands a HOLD_EXPIRED cause without number or key. A deadline that is absent or not reached, or a number that no notice
queued has, changes nothing (log entry 1). (R137, R148, R56) -/
def Obligations.DeadlinesRaiseCauses : Prop :=
  ∀ s : State, s.held = false →
    (∀ (before after : List Notice) (n : Notice), s.notices.entries = before ++ n :: after →
      (∀ m ∈ before ++ after, m.seq ≠ n.seq) →
      ((∀ d, n.deadline = some d → 2 ^ 31 ≤ (s.time.stamp - d).toNat) →
        exec (.noticeDeadline n.seq) s = .next s) ∧
      ∀ d, n.deadline = some d → (s.time.stamp - d).toNat < 2 ^ 31 →
        exec (.noticeDeadline n.seq) s = .next (takeCause .deadline (some n.seq) n.body.key { s with
          notices := { s.notices with
            entries := before ++ { n with expired := true, deadline := none } :: after } })) ∧
    (∀ seq, (∀ n ∈ s.notices.entries, n.seq ≠ seq) → exec (.noticeDeadline seq) s = .next s) ∧
    ((s.esc.mode ≠ .fault ∨ ∀ d, s.esc.holdDeadline = some d → 2 ^ 31 ≤ (s.time.stamp - d).toNat) →
      exec .faultHoldExpiry s = .next s) ∧
    ∀ d, s.esc.mode = .fault → s.esc.holdDeadline = some d → (s.time.stamp - d).toNat < 2 ^ 31 →
      exec .faultHoldExpiry s = .next { s with esc := { s.esc with
        mode := .resetPending, holdDeadline := none
        second := some { kind := .holdExpired, stamp := s.time.stamp, seq := none, key := none } } }

/-- CLEAR_FAULT ends with ALREADY in CLEAR, with REFUSED_STATE in RESET_PENDING and, in FAULT, while an expired notice
is queued; otherwise the state becomes CLEAR, the hold deadline absent, the causes kept, and it ends with OK.
READ_REACTION shows the first cause for part 0 and the second for part 1; any other part gives BAD_PARAM. Nothing else
changes. The view is laid out as Table 11-7 states: the escalation state and what is present, and the kind, stamp,
number and key of the cause named; an absent cause or field reads 0. (R150, R151, R152, section 11.5) -/
def Obligations.ClearFaultAndReadReaction : Prop :=
  (∀ s : State,
    (Waiting .clearFault .escalation s →
      (s.esc.mode = .clear → exec .clearFault s = .next (complete .already none s)) ∧
      (s.esc.mode = .resetPending → exec .clearFault s = .next (complete .refusedState none s)) ∧
      (s.esc.mode = .fault → (∃ n ∈ s.notices.entries, n.expired = true) →
        exec .clearFault s = .next (complete .refusedState none s)) ∧
      (s.esc.mode = .fault → (∀ n ∈ s.notices.entries, n.expired = false) →
        exec .clearFault s = .next (complete .ok none { s with
          esc := { s.esc with mode := .clear, holdDeadline := none } }))) ∧
    (Waiting .readReaction .escalation s →
      (s.win.params[0] = 0 →
        exec .readReaction s = .next (complete .ok (some (viewReaction s.esc s.esc.first)) s)) ∧
      (s.win.params[0] = 1 →
        exec .readReaction s = .next (complete .ok (some (viewReaction s.esc s.esc.second)) s)) ∧
      (1 < s.win.params[0].toNat → exec .readReaction s = .next (complete .badParam none s)))) ∧
  ∀ e : Escalation,
    let unit : BitVec 5 :=
      BitVec.ofBool e.second.isSome ++ BitVec.ofBool e.first.isSome ++ BitVec.ofBool e.beforeReset ++
      (match e.mode with | .clear => 0#2 | .fault => 1#2 | .resetPending => 2#2)
    viewReaction e none = #v[0#11 ++ unit, 0, 0, 0, 0, 0, 0, 0] ∧
    ∀ c : Cause, viewReaction e (some c) =
      #v[0#3 ++ BitVec.ofBool c.key.isSome ++ BitVec.ofBool c.seq.isSome ++
          (match c.kind with
            | .deadline => 1#3 | .sOverflow => 2#3 | .immediate => 3#3 | .unpostable => 4#3
            | .holdExpired => 5#3) ++ 0#3 ++ unit,
        c.stamp.extractLsb' 0 16, c.stamp.extractLsb' 16 16, c.seq.getD 0,
        (match c.key with | none => 0 | some k => 0#12 ++ BitVec.ofNat 4 k.mem.val),
        (match c.key with | none => 0 | some k => k.granule.extractLsb' 0 16),
        (match c.key with | none => 0 | some k => 0#3 ++ k.granule.extractLsb' 16 13), 0]

/-- COMMAND reads the code back, the overrun and unseen indications are cleared, and: a code 01h to 16h makes its
command pending with its owner and the state BUSY, a port command with the port PARAM0 names; a port command with
PARAM0 above 5 and an unknown code complete at once with BAD_PARAM. COMMAND_ACCEPTED, UNKNOWN_COMMAND and a
REGISTER_WRITE to COMMAND act alike (log entry 9). The codes are those of Table 11-5. A completion sets the result,
DONE and the completion-unseen indication, leaves no command pending, writes the eight views where the command gives
them and keeps them otherwise, and changes nothing else. (R165, R96, R167, R179) -/
def Obligations.CommandWritesAreAccepted : Prop :=
  ∀ (s : State) (code : Word), s.held = false → s.win.cmdState ≠ .busy →
    let accepted := { s with win := { s.win with code := code, overrun := false, unseen := false } }
    let busy := fun (c : Command) (o : Owner) => { s with
      win := { s.win with
        code := code, overrun := false, unseen := false, cmdState := .busy, command := some ⟨c, o⟩ } }
    exec (.registerWrite 0x04#5 code) s = exec (.commandAccepted code) s ∧
    exec (.unknownCommand code) s = exec (.commandAccepted code) s ∧
    (code = 0 ∨ 0x18 < code.toNat →
      exec (.unknownCommand code) s = .next (complete .badParam none accepted)) ∧
    (∀ c, (code, c) ∈ [(0x01#16, Command.enterConfig), (0x02#16, .leaveConfig), (0x03#16, .setMemory),
        (0x04#16, .readMemory), (0x05#16, .setRegion), (0x06#16, .readRegion), (0x07#16, .unmuteRegion),
        (0x08#16, .fetchRecord), (0x09#16, .findRecord), (0x0A#16, .retireRecord), (0x0B#16, .pinRecord),
        (0x0C#16, .unpinRecord), (0x0D#16, .settleRecord), (0x0E#16, .clearTables), (0x0F#16, .verifyRecord)] →
      exec (.commandAccepted code) s = .next (busy c .engine)) ∧
    (∀ c, (code, c) ∈ [(0x10#16, Command.setPort), (0x11#16, .restartPort), (0x12#16, .flushPort),
        (0x13#16, .readPort)] →
      (5 < s.win.params[0].toNat →
        exec (.commandAccepted code) s = .next (complete .badParam none accepted)) ∧
      ∀ ix : PortIx, s.win.params[0].toNat = ix.val →
        exec (.commandAccepted code) s = .next (busy c (.port ix))) ∧
    (∀ (r : Result) (views : Option (Vector Word 8)) (t : State), complete r views t = { t with
      win := { t.win with
        result := some r, cmdState := .done, unseen := true, command := none
        views := match views with | none => t.win.views | some v => v } }) ∧
    (code = 0x14 → exec (.commandAccepted code) s = .next (busy .ackNotice .notices)) ∧
    (code = 0x15 → exec (.commandAccepted code) s = .next (busy .clearFault .escalation)) ∧
    (code = 0x16 → exec (.commandAccepted code) s = .next (busy .readReaction .escalation))

/-- While the command state is BUSY a write to COMMAND leaves everything but the overrun indication, which it sets, or
leaves set: COMMAND_OVERRUN, COMMAND_ACCEPTED and UNKNOWN_COMMAND of any code, SET_TIMING, READ_TIMING and a
REGISTER_WRITE to 04h, each of which is such a write (log entry 9, DEDUCED). The completion of the pending command
leaves it; the acceptance of the next command, whatever its code, and both resets clear it. (R163, R165, R166, R171,
R173) -/
def Obligations.OverrunIsIgnoredAndMarked : Prop :=
  ∀ (s : State) (code : Word), s.held = false →
    (s.win.cmdState = .busy →
      ∀ i ∈ [Instr.commandOverrun code, .commandAccepted code, .unknownCommand code, .setTiming, .readTiming,
          .registerWrite 0x04#5 code],
        exec i s = .next { s with win := { s.win with overrun := true } }) ∧
    (s.win.cmdState ≠ .busy → ∃ t, exec (.commandAccepted code) s = .next t ∧ t.win.overrun = false) ∧
    (∀ r views, (complete r views s).win.overrun = s.win.overrun) ∧
    (∃ t, exec .porstAssert s = .next t ∧ t.win.overrun = false) ∧
    ∃ t, exec .wrstAssert s = .next t ∧ t.win.overrun = false

/-- While not BUSY, the write of 17h is accepted and completed at once: REFUSED_STATE in RUN; in CONFIG BAD_PARAM
where the verify timeout is not 1 to 4095, the retry limit not 1 to 7, the frame timeout not 1 to 255 or the
acknowledge window 0; otherwise the six values are stored and it ends with OK. The write of 18h shows the store and
ends with OK. COMMAND_ACCEPTED of these codes acts alike (log entry 9). The view holds the six values in the words of
Table 11-7. (R171, R173, R167, R165) -/
def Obligations.SetAndReadTiming : Prop :=
  ∀ s : State, s.held = false → s.win.cmdState ≠ .busy →
    let accepted := fun (code : Word) =>
      { s with win := { s.win with code := code, overrun := false, unseen := false } }
    let outside := s.win.params[1] = 0 ∨ 4095 < s.win.params[1].toNat ∨ s.win.params[2] = 0 ∨
      7 < s.win.params[2].toNat ∨ s.win.params[3] = 0 ∨ 255 < s.win.params[3].toNat ∨ s.win.params[4] = 0
    exec (.commandAccepted 0x17#16) s = exec .setTiming s ∧
    exec (.commandAccepted 0x18#16) s = exec .readTiming s ∧
    exec .readTiming s = .next (complete .ok (some (viewTiming s.win.settings)) (accepted 0x18#16)) ∧
    (s.engine.mode = .run → exec .setTiming s = .next (complete .refusedState none (accepted 0x17#16))) ∧
    (s.engine.mode = .config → outside →
      exec .setTiming s = .next (complete .badParam none (accepted 0x17#16))) ∧
    (s.engine.mode = .config → ¬ outside →
      exec .setTiming s = .next (complete .ok none { accepted 0x17#16 with
        win := { (accepted 0x17#16).win with
          settings :=
            { divisorLessOne := s.win.params[0], verifyTimeout := s.win.params[1].setWidth 12
              retryLimit := s.win.params[2].setWidth 3, frameTimeout := s.win.params[3].setWidth 8
              ackWindow := s.win.params[4], faultHold := s.win.params[5], codeAgrees := true } } })) ∧
    ∀ c : Settings, viewTiming c =
      #v[c.divisorLessOne, 0#4 ++ c.verifyTimeout, 0#13 ++ c.retryLimit, 0#8 ++ c.frameTimeout, c.ackWindow,
        c.faultHold, 0, 0]

/-- A write to CONTROL sets both enables to the bits written and, with the seen bit, clears the unseen indication. A
write to a parameter register puts the word there; a write to any other address but CONTROL and COMMAND changes
nothing. A read of STAMP_LO returns the stamp's low word and captures its high word in the holding register, which
STAMP_HI then reads. MARK_SEEN sets the seen bit of the word it carries (log entry 18), a REGISTER_WRITE to 03h is a
write to CONTROL (log entry 9), and the word a read returns is held or computed (log entry 21). Each register below
the notice window, PORT_SUMMARY and the stamp registers read as Tables 11-3 and 11-4 lay them out, 1Ch to 1Fh read 0,
and every register reads 0 while the part is held. (R55, R155, R163, R169, R174, R179, section 11.3) -/
def Obligations.ControlParamAndStampAccesses : Prop :=
  (∀ (s : State) (a : BitVec 5), s.held = true → readRegister a s = 0) ∧
  ∀ (s : State) (word : Word), s.held = false →
    let portBits : PortIx → BitVec 2 := fun ix =>
      match s.ports[ix].mode with | .down => 0#2 | .listen => 1#2 | .ready => 2#2 | .halted => 3#2
    exec (.setInterruptEnables word) s = .next { s with win := { s.win with
      noticeEnable := word.getLsbD 0, commandEnable := word.getLsbD 1
      unseen := if word.getLsbD 2 then false else s.win.unseen } } ∧
    exec (.registerWrite 0x03#5 word) s = exec (.setInterruptEnables word) s ∧
    exec (.markSeen word) s = .next { s with win := { s.win with
      noticeEnable := word.getLsbD 0, commandEnable := word.getLsbD 1, unseen := false } } ∧
    (∀ k : Fin 6, exec (.registerWrite (BitVec.ofNat 5 (k.val + 5)) word) s = .next { s with
      win := { s.win with params := s.win.params.set k.val word } }) ∧
    (∀ a : BitVec 5, a.toNat < 3 ∨ 10 < a.toNat → exec (.registerWrite a word) s = .next s) ∧
    readRegister 0x00 s = 0x2401#16 ∧
    readRegister 0x01 s = 0#5 ++
      (match s.esc.mode with | .clear => 0#2 | .fault => 1#2 | .resetPending => 2#2) ++
      (match s.engine.mode with | .config => 0#1 | .run => 1#1) ++
      (match s.win.result with
        | none => 0#4 | some .ok => 1#4 | some .refusedState => 2#4 | some .badParam => 3#4
        | some .notFound => 4#4 | some .stale => 5#4 | some .inUse => 6#4 | some .already => 7#4
        | some .full => 8#4 | some .mismatch => 9#4) ++
      BitVec.ofBool s.win.unseen ++ BitVec.ofBool s.win.overrun ++
      (match s.win.cmdState with | .idle => 0#2 | .busy => 1#2 | .done => 2#2) ∧
    readRegister 0x02 s = s.notices.lost ++ 0#3 ++ BitVec.ofNat 5 s.notices.entries.length ∧
    readRegister 0x03 s = 0#14 ++ BitVec.ofBool s.win.commandEnable ++ BitVec.ofBool s.win.noticeEnable ∧
    readRegister 0x04 s = s.win.code ∧
    (∀ k : Fin 6, readRegister (BitVec.ofNat 5 (k.val + 0x05)) s = s.win.params[k]) ∧
    (∀ k : Fin 8, readRegister (BitVec.ofNat 5 (k.val + 0x0B)) s = s.win.views[k]) ∧
    readRegister 0x19 s =
      0#4 ++ portBits 5 ++ portBits 4 ++ portBits 3 ++ portBits 2 ++ portBits 1 ++ portBits 0 ∧
    readRegister 0x1A s = s.time.stamp.extractLsb' 0 16 ∧ readRegister 0x1B s = s.win.stampHold ∧
    (∀ a : BitVec 5, 0x1C ≤ a.toNat → readRegister a s = 0) ∧
    ∃ t, exec .stampLoRead s = .next t ∧
      t = { s with win := { s.win with
        readData := s.time.stamp.setWidth 16, stampHold := (s.time.stamp >>> 16).setWidth 16 } } ∧
      readRegister 0x1B t = (s.time.stamp >>> 16).setWidth 16

/-- The assertion of PORST, in every state, gives the state after reset but for the reset inputs and the queue of
commands. That state holds the values of Tables 2-1, 2-4, 5-4 and 10-4 and of R32, R54, R75, R125, R141, R153 and
R175, each spelled out, with every integrity code agreeing (log entry 6); the model's own are readData, bitTime,
ignoring and nextJob (log entry 8), warm (log entry 7) and the empty queue pending (log entry 5). The release of PORST
changes only the input, so that with WRST not asserted the part is then not held. END_OF_WARM_RESET where WRST is not
asserted, where PORST is asserted, or where PORST was asserted while WRST was, changes only the inputs: no check is
made and no notice posted (log entry 7). (R32, R50, R54, R75, R102, R125, R141, R153, R155, R157, R170, R175) -/
def Obligations.PowerOnResetClearsEverything : Prop :=
  State.reset =
    { engine :=
        { mode := .config, cTable := Vector.replicate 32 none, sTable := Vector.replicate 16 none
          pinnedCount := 0, cFullArmed := true, lastServed := 5
          memories := Vector.replicate 16
            { owner := none, granuleSize := .g64, size := 2 ^ 29, codeAgrees := true }
          ranges := Vector.replicate 12 { enabled := false, mem := 0, base := 0, limit := 0 }
          regions := Vector.replicate 13
            { policy :=
                { threshold := 3, verifyEnable := true, softLimit := 3, burstLimit := 0, decayPeriod := 100
                  severeClass := .deadline }
              counts :=
                { muted := false, burst := 0, decayDeadline := none, accepted := 0, unrecorded := 0
                  evictions := 0, mutedReports := 0 }
              codeAgrees := true } }
      ports := Vector.replicate 6
        { mode := .down, haltOnError := false, queue := [], expected := 0, lastAccepted := none
          reporterId := none, outstanding := none, rx := none, ignoring := none, bitTime := none
          sending := none, waiting := [], checkErrors := 0, sequenceErrors := 0, staleVerdicts := 0
          flushed := 0 }
      sched :=
        { nextJob := 0, jobs := [], answered := [], tagCounters := Vector.replicate 6 0
          handovers := Vector.replicate 6 [] }
      notices := { entries := [], nextSeq := 0, lost := 0 }
      esc := { mode := .clear, first := none, second := none, beforeReset := false, holdDeadline := none }
      time := { stamp := 0, count := 0, divisorInUse := 15999 }
      win :=
        { cmdState := .idle, result := none, code := 0, overrun := false, unseen := false, command := none
          noticeEnable := false, commandEnable := false, params := Vector.replicate 6 0
          views := Vector.replicate 8 0, stampHold := 0
          settings :=
            { divisorLessOne := 15999, verifyTimeout := 200, retryLimit := 3, frameTimeout := 5
              ackWindow := 1000, faultHold := 5000, codeAgrees := true }
          readData := 0 }
      resets := { porst := false, wrst := false, warm := false }
      pending := [] } ∧
  ∀ s : State,
    exec .porstAssert s = .next { State.reset with
      resets := { porst := true, wrst := s.resets.wrst, warm := false }, pending := s.pending } ∧
    (∃ t, exec .porstRelease s = .next t ∧ t = { s with resets := { s.resets with porst := false } } ∧
      (t.held = false ↔ s.resets.wrst = false)) ∧
    ∀ d : Disturbance, s.resets.wrst = false ∨ s.resets.warm = false ∨ s.resets.porst = true →
      exec (.endOfWarmReset d) s = .next { s with
        resets := { porst := s.resets.porst, wrst := false, warm := false } }

/-- At a part that is not held: tables, pinned count, C-full flag, memory table, ranges, policies, settings, the
causes and the time base are kept; the engine is in CONFIG with port 5 last served; region state fields, ports,
scheduler, notices and the window take their reset values; escalation is CLEAR with no hold deadline and the before-
reset indicator set. A second assertion, or one while PORST is asserted, changes only the input (log entry 7). (R39,
R50, R54, R76, R102, R125, R141, R154, R155, R156, R175) -/
def Obligations.WarmResetAssertionKeepsRetainedSet : Prop :=
  ∀ s : State,
    (s.resets.wrst = true → exec .wrstAssert s = .next s) ∧
    (s.resets.wrst = false → s.resets.porst = true →
      exec .wrstAssert s = .next { s with resets := { s.resets with wrst := true } }) ∧
    (s.held = false → ∃ t, exec .wrstAssert s = .next t ∧
      t.engine.cTable = s.engine.cTable ∧ t.engine.sTable = s.engine.sTable ∧
      t.engine.pinnedCount = s.engine.pinnedCount ∧ t.engine.cFullArmed = s.engine.cFullArmed ∧
      t.engine.memories = s.engine.memories ∧ t.engine.ranges = s.engine.ranges ∧
      (∀ ix : RegionIx, t.engine.regions[ix] =
        { s.engine.regions[ix] with
          counts :=
            { muted := false, burst := 0, decayDeadline := none, accepted := 0, unrecorded := 0
              evictions := 0, mutedReports := 0 } }) ∧
      t.engine.mode = .config ∧ t.engine.lastServed = 5 ∧ t.ports = State.reset.ports ∧
      t.sched = State.reset.sched ∧ t.notices = State.reset.notices ∧
      t.esc = { s.esc with mode := .clear, holdDeadline := none, beforeReset := true } ∧
      t.time = s.time ∧ t.win = { State.reset.win with settings := s.win.settings } ∧
      t.resets = { porst := false, wrst := true, warm := true } ∧ t.pending = s.pending)

/-- With a warm reset in progress and at most 14 notices queued it answers a next state: a memory, region or the
settings whose code fails takes its power-on values; a record of a failing memory, or whose own code fails, leaves its
slot free; a kept SUSPECT record becomes COUNTING without hard reason, every other kept record stays; the pinned count
is that of the records kept and the C-full flag is armed; RESUMED is posted with the records kept, and RETENTION_LOST
with the entries that failed where any did, each at the tail with the next sequence number and the stamp, without a
deadline, not expired; the lost count stays. All else stays. Which entries fail is what the disturbance and the codes
held say (log entry 6); only the release of WRST in a warm reset in progress makes the checks (log entry 7). (R157,
R158, R159, R160, R161, R162, R18, R28) -/
def Obligations.EndOfWarmResetChecksAndAdjusts : Prop :=
  ∀ (s : State) (d : Disturbance), s.resets.wrst = true → s.resets.warm = true → s.resets.porst = false →
    s.notices.entries.length ≤ 14 →
    let memOk := fun m : MemId => s.engine.memories[m].codeAgrees && !d.memories.getLsbD m.val
    let cOk := fun (i : CSlot) (r : CRecord) =>
      memOk r.core.key.mem && r.core.codeAgrees && !d.cRecords.getLsbD i.val
    let sOk := fun (i : SSlot) (r : SRecord) =>
      memOk r.core.key.mem && r.core.codeAgrees && !d.sRecords.getLsbD i.val
    let regionOk := fun ix : RegionIx => s.engine.regions[ix].codeAgrees && !d.regions.getLsbD ix.val
    let settingsOk := s.win.settings.codeAgrees && !d.settings
    let kept := ((List.finRange 32).countP fun i => s.engine.cTable[i].any (cOk i)) +
      (List.finRange 16).countP fun i => s.engine.sTable[i].any (sOk i)
    let failed := ((List.finRange 16).countP fun m => !memOk m) +
      ((List.finRange 32).countP fun i => s.engine.cTable[i].any fun r => !cOk i r) +
      ((List.finRange 16).countP fun i => s.engine.sTable[i].any fun r => !sOk i r) +
      ((List.finRange 13).countP fun ix => !regionOk ix) + (if settingsOk then 0 else 1)
    let posted := fun (seq : Word) (body : NoticeBody) =>
      ({ seq := seq, body := body, stamp := s.time.stamp, deadline := none, expired := false } : Notice)
    ∃ t, exec (.endOfWarmReset d) s = .next t ∧
      (∀ m : MemId, t.engine.memories[m] =
        if memOk m then s.engine.memories[m] else State.reset.engine.memories[m]) ∧
      (∀ i : CSlot, t.engine.cTable[i] = (s.engine.cTable[i].filter (cOk i)).map fun r =>
        if r.mode = .suspect then { r with mode := .counting, hardReason := none } else r) ∧
      (∀ i : SSlot, t.engine.sTable[i] = s.engine.sTable[i].filter (sOk i)) ∧
      (∀ ix : RegionIx, t.engine.regions[ix] =
        if regionOk ix then s.engine.regions[ix] else State.reset.engine.regions[ix]) ∧
      (∀ ix : Fin 12, t.engine.ranges[ix] =
        if regionOk ix.castSucc then s.engine.ranges[ix] else State.reset.engine.ranges[ix]) ∧
      t.engine.pinnedCount = ((List.finRange 32).countP fun i =>
        s.engine.cTable[i].any fun r => cOk i r && r.pinned) ∧
      t.engine.cFullArmed = true ∧ t.engine.mode = s.engine.mode ∧
      t.engine.lastServed = s.engine.lastServed ∧
      t.win = { s.win with settings := if settingsOk then s.win.settings else State.reset.win.settings } ∧
      t.notices =
        { entries := s.notices.entries ++ posted s.notices.nextSeq (.resumed (BitVec.ofNat 8 kept)) ::
            (if failed = 0 then []
              else [posted (s.notices.nextSeq + 1) (.retentionLost (BitVec.ofNat 8 failed))])
          nextSeq := s.notices.nextSeq + (if failed = 0 then 1 else 2)
          lost := s.notices.lost } ∧
      t.ports = s.ports ∧ t.sched = s.sched ∧ t.esc = s.esc ∧ t.time = s.time ∧ t.pending = s.pending ∧
      t.resets = { porst := false, wrst := false, warm := false }

/-- For every HELLO, REPORT and VERDICT with every value of its fields: the bytes of the frame, followed by anything,
are received as exactly that frame; every shorter beginning of them is incomplete; and the same type byte and fields
under any other check code make a bad frame (that bytes after the second check byte belong to no frame is log entry
15). A type byte that is none of 01h, 02h and 03h makes the frame bad at that byte, whatever follows. The bytes of a
frame are its type byte, its fields in the order of Table 11-1, each 16-bit or longer field high byte first, and its
check code, high byte first; the kind byte is that of Table 11-2. A byte on a lane is a start bit (low), eight data
bits, the most significant first, and a stop bit (high), and the bits sampled, with any time high before the start
bit, give that byte back. The check code of the bytes 31h to 39h is 29B1h. An outbound frame is its type byte, its
fields in the order of Table 11-1 and its check code, high byte first; frames sent one after another have at least 2
bit times high between them. (R80, R176, R177, R178, section 11.2) -/
def Obligations.InboundFramesRoundTrip : Prop :=
  (∀ f : InFrame,
    (∀ more, receive (f.bytes ++ more) = .good f) ∧
    (∀ n, n < f.bytes.length → receive (f.bytes.take n) = .incomplete) ∧
    ∀ w : Word, w ≠ checkCode f.body → receive (f.body ++ bytes16 w) = .bad) ∧
  (∀ (t : Byte) (rest : List Byte), t ≠ 0x01 → t ≠ 0x02 → t ≠ 0x03 → receive (t :: rest) = .bad) ∧
  (∀ f : InFrame,
    f.bytes = f.body ++ [(checkCode f.body).extractLsb' 8 8, (checkCode f.body).extractLsb' 0 8] ∧
    f.body =
      match f with
      | .hello next reporter => [0x01, next, reporter.extractLsb' 8 8, reporter.extractLsb' 0 8]
      | .report r =>
        [0x02, r.seq, BitVec.ofBool r.master.isSome ++ BitVec.ofBool r.syndrome.isSome ++ r.ignored ++ r.kind,
          r.mem, r.addr.extractLsb' 24 8, r.addr.extractLsb' 16 8, r.addr.extractLsb' 8 8,
          r.addr.extractLsb' 0 8] ++
        (match r.master with | none => [] | some b => [b]) ++
        (match r.syndrome with | none => [] | some w => [w.extractLsb' 8 8, w.extractLsb' 0 8])
      | .verdict tag result => [0x03, tag, result]) ∧
  (∀ b : Byte, byteBits b = false :: (List.range 8).map (fun k => b.getLsbD (7 - k)) ++ [true]) ∧
  (∀ (n : Nat) (b : Byte) (rest : List Bool),
    bytesOnLane (List.replicate n true ++ byteBits b ++ rest) = b :: bytesOnLane rest) ∧
  (∀ (f : OutFrame) (extra gap : Nat) (rest : List (OutFrame × Nat × Nat)),
    txSequence ((f, extra, gap) :: rest) =
      List.replicate 16 false ++ List.replicate (1 + extra) true ++ f.bytes.flatMap byteBits ++
        List.replicate (2 + gap) true ++ txSequence rest) ∧
  checkCode [0x31, 0x32, 0x33, 0x34, 0x35, 0x36, 0x37, 0x38, 0x39] = 0x29B1#16 ∧
  ∀ f : OutFrame,
    let body : List Byte :=
      match f with
      | .welcome port expected => [0x81, BitVec.ofNat 8 port.val, expected]
      | .ack seq => [0x82, seq]
      | .nak seq reason => [0x83, seq,
          match reason with
          | .busy => 1 | .notReady => 2 | .halted => 3 | .sequence => 4 | .foreign => 5 | .range => 6]
      | .verify tag mem addr => [0x84, 0#4 ++ tag, BitVec.ofNat 8 mem.val, addr.extractLsb' 24 8,
          addr.extractLsb' 16 8, addr.extractLsb' 8 8, addr.extractLsb' 0 8]
      | .cancel tag => [0x85, 0#4 ++ tag]
    f.bytes = body ++ [(checkCode body).extractLsb' 8 8, (checkCode body).extractLsb' 0 8]

/-- From every state that keeps the laws of verification (each job is for a SUSPECT C-record and outside a warm reset
each SUSPECT record has its job; the ANSWERED order names the ANSWERED jobs; URGENT jobs ahead; a job IN_FLIGHT on a
port has its tag outstanding there, at most one a port, and tags are held in READY only; no two jobs have one name,
and every name in a job or a dispatch is below the next (log entry 22); a port has at most one dispatch to take, and a
job offered to it is the one that dispatch names, with its tag), a step answers a next state, never a fault or a
refusal, and the next state keeps them. (R93, R103, R104, R105, R108, R109, R110, section 6.1) -/
def Obligations.JobsLawfulKeptAndStepNeverStops : Prop :=
  ∀ s : State, JobsLawful s → ∃ t, step s = .next t ∧ JobsLawful t

/-- From every state whose port queues hold at most 4 reports, verify queue at most 8 jobs and notice queue at most 16
notices, numbered consecutively up to the next number, and in which an expired notice is queued only outside CLEAR, a
step leads to such a state. (R87, R104, R128, R139) -/
def Obligations.QueueLawsKept : Prop :=
  ∀ s t : State, QueuesBounded s → NoticesLawful s → step s = .next t → QueuesBounded t ∧ NoticesLawful t

/-- From every state in which no key has two records, C-records hold correctable kinds only and S-records a severe
one, every record has a hit and no more hits since verdict than hits, and the pinned count is the number of pinned
C-records and at most 24, a step leads to such a state. (R2, R3, R4, R28) -/
def Obligations.RecordLawsKept : Prop :=
  ∀ s t : State, RecordsLawful s → KeysUnique s → PinnedCounted s → step s = .next t →
    RecordsLawful t ∧ KeysUnique t ∧ PinnedCounted t

/-- From every state in which every integrity code agrees, every memory named by a record has an owner, policy and
timing values are in their ranges, and each region's burst counter, muted state and decay deadline fit each other, a
step leads to such a state. (R8, R34, R43, R45, R47, R156, R170) -/
def Obligations.RetainedAndPolicyLawsKept : Prop :=
  ∀ s t : State, RetainedLawful s → PolicyLawful s → step s = .next t → RetainedLawful t ∧ PolicyLawful t

/-- From every state in which BUSY means a pending command, that of the code read back; the hold deadline is present
only in FAULT and the causes fit the state; and a held part stands at its reset values, a step leads to such a state.
(R145, R146, R148, R154, R155, R165) -/
def Obligations.WindowEscalationAndResetLawsKept : Prop :=
  ∀ s t : State, WindowLawful s → EscalationLawful s → HeldAtReset s → step s = .next t →
    WindowLawful t ∧ EscalationLawful t ∧ HeldAtReset t

/-- The state after power-on reset keeps each law that the statements about every step assume. (R32, R50, R75, R102,
R125, R141, R153, R175) -/
def Obligations.LawsHoldAtReset : Prop :=
  QueuesBounded State.reset ∧ NoticesLawful State.reset ∧ RecordsLawful State.reset ∧
    KeysUnique State.reset ∧ PinnedCounted State.reset ∧ JobsLawful State.reset ∧
    RetainedLawful State.reset ∧ PolicyLawful State.reset ∧ WindowLawful State.reset ∧
    EscalationLawful State.reset ∧ HeldAtReset State.reset
end

