-- ==== Sys2Proof/Laws/State.lean ====
section
/-! SUPPORT. What each update of State writes and what it leaves: one lemma for each field. -/

namespace Sys2Proof.Machine

/-! ## setEngine -/

@[simp] theorem State.setEngine_engine (s : State) (x : Engine) : (s.setEngine x).engine = x := rfl
@[simp] theorem State.setEngine_ports (s : State) (x : Engine) : (s.setEngine x).ports = s.ports := rfl
@[simp] theorem State.setEngine_sched (s : State) (x : Engine) : (s.setEngine x).sched = s.sched := rfl
@[simp] theorem State.setEngine_notices (s : State) (x : Engine) : (s.setEngine x).notices = s.notices := rfl
@[simp] theorem State.setEngine_esc (s : State) (x : Engine) : (s.setEngine x).esc = s.esc := rfl
@[simp] theorem State.setEngine_time (s : State) (x : Engine) : (s.setEngine x).time = s.time := rfl
@[simp] theorem State.setEngine_win (s : State) (x : Engine) : (s.setEngine x).win = s.win := rfl
@[simp] theorem State.setEngine_resets (s : State) (x : Engine) : (s.setEngine x).resets = s.resets := rfl
@[simp] theorem State.setEngine_pending (s : State) (x : Engine) : (s.setEngine x).pending = s.pending := rfl

/-! ## setPorts -/

@[simp] theorem State.setPorts_engine (s : State) (x : Vector Port 6) : (s.setPorts x).engine = s.engine := rfl
@[simp] theorem State.setPorts_ports (s : State) (x : Vector Port 6) : (s.setPorts x).ports = x := rfl
@[simp] theorem State.setPorts_sched (s : State) (x : Vector Port 6) : (s.setPorts x).sched = s.sched := rfl
@[simp] theorem State.setPorts_notices (s : State) (x : Vector Port 6) : (s.setPorts x).notices = s.notices := rfl
@[simp] theorem State.setPorts_esc (s : State) (x : Vector Port 6) : (s.setPorts x).esc = s.esc := rfl
@[simp] theorem State.setPorts_time (s : State) (x : Vector Port 6) : (s.setPorts x).time = s.time := rfl
@[simp] theorem State.setPorts_win (s : State) (x : Vector Port 6) : (s.setPorts x).win = s.win := rfl
@[simp] theorem State.setPorts_resets (s : State) (x : Vector Port 6) : (s.setPorts x).resets = s.resets := rfl
@[simp] theorem State.setPorts_pending (s : State) (x : Vector Port 6) : (s.setPorts x).pending = s.pending := rfl

/-! ## setSched -/

@[simp] theorem State.setSched_engine (s : State) (x : Scheduler) : (s.setSched x).engine = s.engine := rfl
@[simp] theorem State.setSched_ports (s : State) (x : Scheduler) : (s.setSched x).ports = s.ports := rfl
@[simp] theorem State.setSched_sched (s : State) (x : Scheduler) : (s.setSched x).sched = x := rfl
@[simp] theorem State.setSched_notices (s : State) (x : Scheduler) : (s.setSched x).notices = s.notices := rfl
@[simp] theorem State.setSched_esc (s : State) (x : Scheduler) : (s.setSched x).esc = s.esc := rfl
@[simp] theorem State.setSched_time (s : State) (x : Scheduler) : (s.setSched x).time = s.time := rfl
@[simp] theorem State.setSched_win (s : State) (x : Scheduler) : (s.setSched x).win = s.win := rfl
@[simp] theorem State.setSched_resets (s : State) (x : Scheduler) : (s.setSched x).resets = s.resets := rfl
@[simp] theorem State.setSched_pending (s : State) (x : Scheduler) : (s.setSched x).pending = s.pending := rfl

/-! ## setNotices -/

@[simp] theorem State.setNotices_engine (s : State) (x : NoticeQueue) : (s.setNotices x).engine = s.engine := rfl
@[simp] theorem State.setNotices_ports (s : State) (x : NoticeQueue) : (s.setNotices x).ports = s.ports := rfl
@[simp] theorem State.setNotices_sched (s : State) (x : NoticeQueue) : (s.setNotices x).sched = s.sched := rfl
@[simp] theorem State.setNotices_notices (s : State) (x : NoticeQueue) : (s.setNotices x).notices = x := rfl
@[simp] theorem State.setNotices_esc (s : State) (x : NoticeQueue) : (s.setNotices x).esc = s.esc := rfl
@[simp] theorem State.setNotices_time (s : State) (x : NoticeQueue) : (s.setNotices x).time = s.time := rfl
@[simp] theorem State.setNotices_win (s : State) (x : NoticeQueue) : (s.setNotices x).win = s.win := rfl
@[simp] theorem State.setNotices_resets (s : State) (x : NoticeQueue) : (s.setNotices x).resets = s.resets := rfl
@[simp] theorem State.setNotices_pending (s : State) (x : NoticeQueue) : (s.setNotices x).pending = s.pending := rfl

/-! ## setEsc -/

@[simp] theorem State.setEsc_engine (s : State) (x : Escalation) : (s.setEsc x).engine = s.engine := rfl
@[simp] theorem State.setEsc_ports (s : State) (x : Escalation) : (s.setEsc x).ports = s.ports := rfl
@[simp] theorem State.setEsc_sched (s : State) (x : Escalation) : (s.setEsc x).sched = s.sched := rfl
@[simp] theorem State.setEsc_notices (s : State) (x : Escalation) : (s.setEsc x).notices = s.notices := rfl
@[simp] theorem State.setEsc_esc (s : State) (x : Escalation) : (s.setEsc x).esc = x := rfl
@[simp] theorem State.setEsc_time (s : State) (x : Escalation) : (s.setEsc x).time = s.time := rfl
@[simp] theorem State.setEsc_win (s : State) (x : Escalation) : (s.setEsc x).win = s.win := rfl
@[simp] theorem State.setEsc_resets (s : State) (x : Escalation) : (s.setEsc x).resets = s.resets := rfl
@[simp] theorem State.setEsc_pending (s : State) (x : Escalation) : (s.setEsc x).pending = s.pending := rfl

/-! ## setTime -/

@[simp] theorem State.setTime_engine (s : State) (x : TimeBase) : (s.setTime x).engine = s.engine := rfl
@[simp] theorem State.setTime_ports (s : State) (x : TimeBase) : (s.setTime x).ports = s.ports := rfl
@[simp] theorem State.setTime_sched (s : State) (x : TimeBase) : (s.setTime x).sched = s.sched := rfl
@[simp] theorem State.setTime_notices (s : State) (x : TimeBase) : (s.setTime x).notices = s.notices := rfl
@[simp] theorem State.setTime_esc (s : State) (x : TimeBase) : (s.setTime x).esc = s.esc := rfl
@[simp] theorem State.setTime_time (s : State) (x : TimeBase) : (s.setTime x).time = x := rfl
@[simp] theorem State.setTime_win (s : State) (x : TimeBase) : (s.setTime x).win = s.win := rfl
@[simp] theorem State.setTime_resets (s : State) (x : TimeBase) : (s.setTime x).resets = s.resets := rfl
@[simp] theorem State.setTime_pending (s : State) (x : TimeBase) : (s.setTime x).pending = s.pending := rfl

/-! ## setWin -/

@[simp] theorem State.setWin_engine (s : State) (x : Window) : (s.setWin x).engine = s.engine := rfl
@[simp] theorem State.setWin_ports (s : State) (x : Window) : (s.setWin x).ports = s.ports := rfl
@[simp] theorem State.setWin_sched (s : State) (x : Window) : (s.setWin x).sched = s.sched := rfl
@[simp] theorem State.setWin_notices (s : State) (x : Window) : (s.setWin x).notices = s.notices := rfl
@[simp] theorem State.setWin_esc (s : State) (x : Window) : (s.setWin x).esc = s.esc := rfl
@[simp] theorem State.setWin_time (s : State) (x : Window) : (s.setWin x).time = s.time := rfl
@[simp] theorem State.setWin_win (s : State) (x : Window) : (s.setWin x).win = x := rfl
@[simp] theorem State.setWin_resets (s : State) (x : Window) : (s.setWin x).resets = s.resets := rfl
@[simp] theorem State.setWin_pending (s : State) (x : Window) : (s.setWin x).pending = s.pending := rfl

/-! ## setResets -/

@[simp] theorem State.setResets_engine (s : State) (x : ResetInputs) : (s.setResets x).engine = s.engine := rfl
@[simp] theorem State.setResets_ports (s : State) (x : ResetInputs) : (s.setResets x).ports = s.ports := rfl
@[simp] theorem State.setResets_sched (s : State) (x : ResetInputs) : (s.setResets x).sched = s.sched := rfl
@[simp] theorem State.setResets_notices (s : State) (x : ResetInputs) : (s.setResets x).notices = s.notices := rfl
@[simp] theorem State.setResets_esc (s : State) (x : ResetInputs) : (s.setResets x).esc = s.esc := rfl
@[simp] theorem State.setResets_time (s : State) (x : ResetInputs) : (s.setResets x).time = s.time := rfl
@[simp] theorem State.setResets_win (s : State) (x : ResetInputs) : (s.setResets x).win = s.win := rfl
@[simp] theorem State.setResets_resets (s : State) (x : ResetInputs) : (s.setResets x).resets = x := rfl
@[simp] theorem State.setResets_pending (s : State) (x : ResetInputs) : (s.setResets x).pending = s.pending := rfl

/-! ## withPending -/

@[simp] theorem State.withPending_engine (s : State) (x : List Instr) : (s.withPending x).engine = s.engine := rfl
@[simp] theorem State.withPending_ports (s : State) (x : List Instr) : (s.withPending x).ports = s.ports := rfl
@[simp] theorem State.withPending_sched (s : State) (x : List Instr) : (s.withPending x).sched = s.sched := rfl
@[simp] theorem State.withPending_notices (s : State) (x : List Instr) : (s.withPending x).notices = s.notices := rfl
@[simp] theorem State.withPending_esc (s : State) (x : List Instr) : (s.withPending x).esc = s.esc := rfl
@[simp] theorem State.withPending_time (s : State) (x : List Instr) : (s.withPending x).time = s.time := rfl
@[simp] theorem State.withPending_win (s : State) (x : List Instr) : (s.withPending x).win = s.win := rfl
@[simp] theorem State.withPending_resets (s : State) (x : List Instr) : (s.withPending x).resets = s.resets := rfl
@[simp] theorem State.withPending_pending (s : State) (x : List Instr) : (s.withPending x).pending = x := rfl

/-! ## setPort -/

@[simp] theorem State.setPort_engine (s : State) (ix : PortIx) (p : Port) : (s.setPort ix p).engine = s.engine := rfl
@[simp] theorem State.setPort_ports (s : State) (ix : PortIx) (p : Port) :
    (s.setPort ix p).ports = s.ports.set ix.val p := rfl
@[simp] theorem State.setPort_sched (s : State) (ix : PortIx) (p : Port) : (s.setPort ix p).sched = s.sched := rfl
@[simp] theorem State.setPort_notices (s : State) (ix : PortIx) (p : Port) : (s.setPort ix p).notices = s.notices := rfl
@[simp] theorem State.setPort_esc (s : State) (ix : PortIx) (p : Port) : (s.setPort ix p).esc = s.esc := rfl
@[simp] theorem State.setPort_time (s : State) (ix : PortIx) (p : Port) : (s.setPort ix p).time = s.time := rfl
@[simp] theorem State.setPort_win (s : State) (ix : PortIx) (p : Port) : (s.setPort ix p).win = s.win := rfl
@[simp] theorem State.setPort_resets (s : State) (ix : PortIx) (p : Port) : (s.setPort ix p).resets = s.resets := rfl
@[simp] theorem State.setPort_pending (s : State) (ix : PortIx) (p : Port) : (s.setPort ix p).pending = s.pending := rfl

/-! ## setRegion -/

@[simp] theorem State.setRegion_ports (s : State) (ix : RegionIx) (r : Region) : (s.setRegion ix r).ports = s.ports := rfl
@[simp] theorem State.setRegion_sched (s : State) (ix : RegionIx) (r : Region) : (s.setRegion ix r).sched = s.sched := rfl
@[simp] theorem State.setRegion_notices (s : State) (ix : RegionIx) (r : Region) : (s.setRegion ix r).notices = s.notices := rfl
@[simp] theorem State.setRegion_esc (s : State) (ix : RegionIx) (r : Region) : (s.setRegion ix r).esc = s.esc := rfl
@[simp] theorem State.setRegion_time (s : State) (ix : RegionIx) (r : Region) : (s.setRegion ix r).time = s.time := rfl
@[simp] theorem State.setRegion_win (s : State) (ix : RegionIx) (r : Region) : (s.setRegion ix r).win = s.win := rfl
@[simp] theorem State.setRegion_resets (s : State) (ix : RegionIx) (r : Region) : (s.setRegion ix r).resets = s.resets := rfl
@[simp] theorem State.setRegion_pending (s : State) (ix : RegionIx) (r : Region) : (s.setRegion ix r).pending = s.pending := rfl
@[simp] theorem State.setRegion_engine_mode (s : State) (ix : RegionIx) (r : Region) :
    (s.setRegion ix r).engine.mode = s.engine.mode := rfl
@[simp] theorem State.setRegion_engine_cTable (s : State) (ix : RegionIx) (r : Region) :
    (s.setRegion ix r).engine.cTable = s.engine.cTable := rfl
@[simp] theorem State.setRegion_engine_sTable (s : State) (ix : RegionIx) (r : Region) :
    (s.setRegion ix r).engine.sTable = s.engine.sTable := rfl
@[simp] theorem State.setRegion_engine_pinnedCount (s : State) (ix : RegionIx) (r : Region) :
    (s.setRegion ix r).engine.pinnedCount = s.engine.pinnedCount := rfl
@[simp] theorem State.setRegion_engine_cFullArmed (s : State) (ix : RegionIx) (r : Region) :
    (s.setRegion ix r).engine.cFullArmed = s.engine.cFullArmed := rfl
@[simp] theorem State.setRegion_engine_lastServed (s : State) (ix : RegionIx) (r : Region) :
    (s.setRegion ix r).engine.lastServed = s.engine.lastServed := rfl
@[simp] theorem State.setRegion_engine_memories (s : State) (ix : RegionIx) (r : Region) :
    (s.setRegion ix r).engine.memories = s.engine.memories := rfl
@[simp] theorem State.setRegion_engine_ranges (s : State) (ix : RegionIx) (r : Region) :
    (s.setRegion ix r).engine.ranges = s.engine.ranges := rfl
@[simp] theorem State.setRegion_engine_regions (s : State) (ix : RegionIx) (r : Region) :
    (s.setRegion ix r).engine.regions = s.engine.regions.set ix.val r := rfl

/-! ## setCounts -/

@[simp] theorem State.setCounts_ports (s : State) (ix : RegionIx) (c : RegionCounts) : (s.setCounts ix c).ports = s.ports := rfl
@[simp] theorem State.setCounts_sched (s : State) (ix : RegionIx) (c : RegionCounts) : (s.setCounts ix c).sched = s.sched := rfl
@[simp] theorem State.setCounts_notices (s : State) (ix : RegionIx) (c : RegionCounts) : (s.setCounts ix c).notices = s.notices := rfl
@[simp] theorem State.setCounts_esc (s : State) (ix : RegionIx) (c : RegionCounts) : (s.setCounts ix c).esc = s.esc := rfl
@[simp] theorem State.setCounts_time (s : State) (ix : RegionIx) (c : RegionCounts) : (s.setCounts ix c).time = s.time := rfl
@[simp] theorem State.setCounts_win (s : State) (ix : RegionIx) (c : RegionCounts) : (s.setCounts ix c).win = s.win := rfl
@[simp] theorem State.setCounts_resets (s : State) (ix : RegionIx) (c : RegionCounts) : (s.setCounts ix c).resets = s.resets := rfl
@[simp] theorem State.setCounts_pending (s : State) (ix : RegionIx) (c : RegionCounts) : (s.setCounts ix c).pending = s.pending := rfl
@[simp] theorem State.setCounts_engine_mode (s : State) (ix : RegionIx) (c : RegionCounts) :
    (s.setCounts ix c).engine.mode = s.engine.mode := rfl
@[simp] theorem State.setCounts_engine_cTable (s : State) (ix : RegionIx) (c : RegionCounts) :
    (s.setCounts ix c).engine.cTable = s.engine.cTable := rfl
@[simp] theorem State.setCounts_engine_sTable (s : State) (ix : RegionIx) (c : RegionCounts) :
    (s.setCounts ix c).engine.sTable = s.engine.sTable := rfl
@[simp] theorem State.setCounts_engine_pinnedCount (s : State) (ix : RegionIx) (c : RegionCounts) :
    (s.setCounts ix c).engine.pinnedCount = s.engine.pinnedCount := rfl
@[simp] theorem State.setCounts_engine_cFullArmed (s : State) (ix : RegionIx) (c : RegionCounts) :
    (s.setCounts ix c).engine.cFullArmed = s.engine.cFullArmed := rfl
@[simp] theorem State.setCounts_engine_lastServed (s : State) (ix : RegionIx) (c : RegionCounts) :
    (s.setCounts ix c).engine.lastServed = s.engine.lastServed := rfl
@[simp] theorem State.setCounts_engine_memories (s : State) (ix : RegionIx) (c : RegionCounts) :
    (s.setCounts ix c).engine.memories = s.engine.memories := rfl
@[simp] theorem State.setCounts_engine_ranges (s : State) (ix : RegionIx) (c : RegionCounts) :
    (s.setCounts ix c).engine.ranges = s.engine.ranges := rfl
@[simp] theorem State.setCounts_engine_regions (s : State) (ix : RegionIx) (c : RegionCounts) :
    (s.setCounts ix c).engine.regions = s.engine.regions.set ix.val { s.engine.regions[ix] with counts := c } := rfl

/-! ## putC -/

@[simp] theorem State.putC_ports (s : State) (slot : CSlot) (r : CRecord) : (s.putC slot r).ports = s.ports := rfl
@[simp] theorem State.putC_sched (s : State) (slot : CSlot) (r : CRecord) : (s.putC slot r).sched = s.sched := rfl
@[simp] theorem State.putC_notices (s : State) (slot : CSlot) (r : CRecord) : (s.putC slot r).notices = s.notices := rfl
@[simp] theorem State.putC_esc (s : State) (slot : CSlot) (r : CRecord) : (s.putC slot r).esc = s.esc := rfl
@[simp] theorem State.putC_time (s : State) (slot : CSlot) (r : CRecord) : (s.putC slot r).time = s.time := rfl
@[simp] theorem State.putC_win (s : State) (slot : CSlot) (r : CRecord) : (s.putC slot r).win = s.win := rfl
@[simp] theorem State.putC_resets (s : State) (slot : CSlot) (r : CRecord) : (s.putC slot r).resets = s.resets := rfl
@[simp] theorem State.putC_pending (s : State) (slot : CSlot) (r : CRecord) : (s.putC slot r).pending = s.pending := rfl
@[simp] theorem State.putC_engine_mode (s : State) (slot : CSlot) (r : CRecord) :
    (s.putC slot r).engine.mode = s.engine.mode := rfl
@[simp] theorem State.putC_engine_cTable (s : State) (slot : CSlot) (r : CRecord) :
    (s.putC slot r).engine.cTable = s.engine.cTable.set slot.val (some { r with core := r.core.recoded }) := rfl
@[simp] theorem State.putC_engine_sTable (s : State) (slot : CSlot) (r : CRecord) :
    (s.putC slot r).engine.sTable = s.engine.sTable := rfl
@[simp] theorem State.putC_engine_pinnedCount (s : State) (slot : CSlot) (r : CRecord) :
    (s.putC slot r).engine.pinnedCount = s.engine.pinnedCount := rfl
@[simp] theorem State.putC_engine_cFullArmed (s : State) (slot : CSlot) (r : CRecord) :
    (s.putC slot r).engine.cFullArmed = s.engine.cFullArmed := rfl
@[simp] theorem State.putC_engine_lastServed (s : State) (slot : CSlot) (r : CRecord) :
    (s.putC slot r).engine.lastServed = s.engine.lastServed := rfl
@[simp] theorem State.putC_engine_memories (s : State) (slot : CSlot) (r : CRecord) :
    (s.putC slot r).engine.memories = s.engine.memories := rfl
@[simp] theorem State.putC_engine_ranges (s : State) (slot : CSlot) (r : CRecord) :
    (s.putC slot r).engine.ranges = s.engine.ranges := rfl
@[simp] theorem State.putC_engine_regions (s : State) (slot : CSlot) (r : CRecord) :
    (s.putC slot r).engine.regions = s.engine.regions := rfl

/-! ## putS -/

@[simp] theorem State.putS_ports (s : State) (slot : SSlot) (r : SRecord) : (s.putS slot r).ports = s.ports := rfl
@[simp] theorem State.putS_sched (s : State) (slot : SSlot) (r : SRecord) : (s.putS slot r).sched = s.sched := rfl
@[simp] theorem State.putS_notices (s : State) (slot : SSlot) (r : SRecord) : (s.putS slot r).notices = s.notices := rfl
@[simp] theorem State.putS_esc (s : State) (slot : SSlot) (r : SRecord) : (s.putS slot r).esc = s.esc := rfl
@[simp] theorem State.putS_time (s : State) (slot : SSlot) (r : SRecord) : (s.putS slot r).time = s.time := rfl
@[simp] theorem State.putS_win (s : State) (slot : SSlot) (r : SRecord) : (s.putS slot r).win = s.win := rfl
@[simp] theorem State.putS_resets (s : State) (slot : SSlot) (r : SRecord) : (s.putS slot r).resets = s.resets := rfl
@[simp] theorem State.putS_pending (s : State) (slot : SSlot) (r : SRecord) : (s.putS slot r).pending = s.pending := rfl
@[simp] theorem State.putS_engine_mode (s : State) (slot : SSlot) (r : SRecord) :
    (s.putS slot r).engine.mode = s.engine.mode := rfl
@[simp] theorem State.putS_engine_cTable (s : State) (slot : SSlot) (r : SRecord) :
    (s.putS slot r).engine.cTable = s.engine.cTable := rfl
@[simp] theorem State.putS_engine_sTable (s : State) (slot : SSlot) (r : SRecord) :
    (s.putS slot r).engine.sTable = s.engine.sTable.set slot.val (some { r with core := r.core.recoded }) := rfl
@[simp] theorem State.putS_engine_pinnedCount (s : State) (slot : SSlot) (r : SRecord) :
    (s.putS slot r).engine.pinnedCount = s.engine.pinnedCount := rfl
@[simp] theorem State.putS_engine_cFullArmed (s : State) (slot : SSlot) (r : SRecord) :
    (s.putS slot r).engine.cFullArmed = s.engine.cFullArmed := rfl
@[simp] theorem State.putS_engine_lastServed (s : State) (slot : SSlot) (r : SRecord) :
    (s.putS slot r).engine.lastServed = s.engine.lastServed := rfl
@[simp] theorem State.putS_engine_memories (s : State) (slot : SSlot) (r : SRecord) :
    (s.putS slot r).engine.memories = s.engine.memories := rfl
@[simp] theorem State.putS_engine_ranges (s : State) (slot : SSlot) (r : SRecord) :
    (s.putS slot r).engine.ranges = s.engine.ranges := rfl
@[simp] theorem State.putS_engine_regions (s : State) (slot : SSlot) (r : SRecord) :
    (s.putS slot r).engine.regions = s.engine.regions := rfl

/-! ## dropS -/

@[simp] theorem State.dropS_ports (s : State) (slot : SSlot) : (s.dropS slot).ports = s.ports := rfl
@[simp] theorem State.dropS_sched (s : State) (slot : SSlot) : (s.dropS slot).sched = s.sched := rfl
@[simp] theorem State.dropS_notices (s : State) (slot : SSlot) : (s.dropS slot).notices = s.notices := rfl
@[simp] theorem State.dropS_esc (s : State) (slot : SSlot) : (s.dropS slot).esc = s.esc := rfl
@[simp] theorem State.dropS_time (s : State) (slot : SSlot) : (s.dropS slot).time = s.time := rfl
@[simp] theorem State.dropS_win (s : State) (slot : SSlot) : (s.dropS slot).win = s.win := rfl
@[simp] theorem State.dropS_resets (s : State) (slot : SSlot) : (s.dropS slot).resets = s.resets := rfl
@[simp] theorem State.dropS_pending (s : State) (slot : SSlot) : (s.dropS slot).pending = s.pending := rfl
@[simp] theorem State.dropS_engine_mode (s : State) (slot : SSlot) :
    (s.dropS slot).engine.mode = s.engine.mode := rfl
@[simp] theorem State.dropS_engine_cTable (s : State) (slot : SSlot) :
    (s.dropS slot).engine.cTable = s.engine.cTable := rfl
@[simp] theorem State.dropS_engine_sTable (s : State) (slot : SSlot) :
    (s.dropS slot).engine.sTable = s.engine.sTable.set slot.val none := rfl
@[simp] theorem State.dropS_engine_pinnedCount (s : State) (slot : SSlot) :
    (s.dropS slot).engine.pinnedCount = s.engine.pinnedCount := rfl
@[simp] theorem State.dropS_engine_cFullArmed (s : State) (slot : SSlot) :
    (s.dropS slot).engine.cFullArmed = s.engine.cFullArmed := rfl
@[simp] theorem State.dropS_engine_lastServed (s : State) (slot : SSlot) :
    (s.dropS slot).engine.lastServed = s.engine.lastServed := rfl
@[simp] theorem State.dropS_engine_memories (s : State) (slot : SSlot) :
    (s.dropS slot).engine.memories = s.engine.memories := rfl
@[simp] theorem State.dropS_engine_ranges (s : State) (slot : SSlot) :
    (s.dropS slot).engine.ranges = s.engine.ranges := rfl
@[simp] theorem State.dropS_engine_regions (s : State) (slot : SSlot) :
    (s.dropS slot).engine.regions = s.engine.regions := rfl

/-! ## setMode -/

@[simp] theorem State.setMode_ports (s : State) (m : EngineMode) : (s.setMode m).ports = s.ports := rfl
@[simp] theorem State.setMode_sched (s : State) (m : EngineMode) : (s.setMode m).sched = s.sched := rfl
@[simp] theorem State.setMode_notices (s : State) (m : EngineMode) : (s.setMode m).notices = s.notices := rfl
@[simp] theorem State.setMode_esc (s : State) (m : EngineMode) : (s.setMode m).esc = s.esc := rfl
@[simp] theorem State.setMode_time (s : State) (m : EngineMode) : (s.setMode m).time = s.time := rfl
@[simp] theorem State.setMode_win (s : State) (m : EngineMode) : (s.setMode m).win = s.win := rfl
@[simp] theorem State.setMode_resets (s : State) (m : EngineMode) : (s.setMode m).resets = s.resets := rfl
@[simp] theorem State.setMode_pending (s : State) (m : EngineMode) : (s.setMode m).pending = s.pending := rfl
@[simp] theorem State.setMode_engine_mode (s : State) (m : EngineMode) :
    (s.setMode m).engine.mode = m := rfl
@[simp] theorem State.setMode_engine_cTable (s : State) (m : EngineMode) :
    (s.setMode m).engine.cTable = s.engine.cTable := rfl
@[simp] theorem State.setMode_engine_sTable (s : State) (m : EngineMode) :
    (s.setMode m).engine.sTable = s.engine.sTable := rfl
@[simp] theorem State.setMode_engine_pinnedCount (s : State) (m : EngineMode) :
    (s.setMode m).engine.pinnedCount = s.engine.pinnedCount := rfl
@[simp] theorem State.setMode_engine_cFullArmed (s : State) (m : EngineMode) :
    (s.setMode m).engine.cFullArmed = s.engine.cFullArmed := rfl
@[simp] theorem State.setMode_engine_lastServed (s : State) (m : EngineMode) :
    (s.setMode m).engine.lastServed = s.engine.lastServed := rfl
@[simp] theorem State.setMode_engine_memories (s : State) (m : EngineMode) :
    (s.setMode m).engine.memories = s.engine.memories := rfl
@[simp] theorem State.setMode_engine_ranges (s : State) (m : EngineMode) :
    (s.setMode m).engine.ranges = s.engine.ranges := rfl
@[simp] theorem State.setMode_engine_regions (s : State) (m : EngineMode) :
    (s.setMode m).engine.regions = s.engine.regions := rfl

/-! ## setPinned -/

@[simp] theorem State.setPinned_ports (s : State) (n : Nat) : (s.setPinned n).ports = s.ports := rfl
@[simp] theorem State.setPinned_sched (s : State) (n : Nat) : (s.setPinned n).sched = s.sched := rfl
@[simp] theorem State.setPinned_notices (s : State) (n : Nat) : (s.setPinned n).notices = s.notices := rfl
@[simp] theorem State.setPinned_esc (s : State) (n : Nat) : (s.setPinned n).esc = s.esc := rfl
@[simp] theorem State.setPinned_time (s : State) (n : Nat) : (s.setPinned n).time = s.time := rfl
@[simp] theorem State.setPinned_win (s : State) (n : Nat) : (s.setPinned n).win = s.win := rfl
@[simp] theorem State.setPinned_resets (s : State) (n : Nat) : (s.setPinned n).resets = s.resets := rfl
@[simp] theorem State.setPinned_pending (s : State) (n : Nat) : (s.setPinned n).pending = s.pending := rfl
@[simp] theorem State.setPinned_engine_mode (s : State) (n : Nat) :
    (s.setPinned n).engine.mode = s.engine.mode := rfl
@[simp] theorem State.setPinned_engine_cTable (s : State) (n : Nat) :
    (s.setPinned n).engine.cTable = s.engine.cTable := rfl
@[simp] theorem State.setPinned_engine_sTable (s : State) (n : Nat) :
    (s.setPinned n).engine.sTable = s.engine.sTable := rfl
@[simp] theorem State.setPinned_engine_pinnedCount (s : State) (n : Nat) :
    (s.setPinned n).engine.pinnedCount = n := rfl
@[simp] theorem State.setPinned_engine_cFullArmed (s : State) (n : Nat) :
    (s.setPinned n).engine.cFullArmed = s.engine.cFullArmed := rfl
@[simp] theorem State.setPinned_engine_lastServed (s : State) (n : Nat) :
    (s.setPinned n).engine.lastServed = s.engine.lastServed := rfl
@[simp] theorem State.setPinned_engine_memories (s : State) (n : Nat) :
    (s.setPinned n).engine.memories = s.engine.memories := rfl
@[simp] theorem State.setPinned_engine_ranges (s : State) (n : Nat) :
    (s.setPinned n).engine.ranges = s.engine.ranges := rfl
@[simp] theorem State.setPinned_engine_regions (s : State) (n : Nat) :
    (s.setPinned n).engine.regions = s.engine.regions := rfl

/-! ## setMemory -/

@[simp] theorem State.setMemory_ports (s : State) (m : MemId) (e : MemoryEntry) : (s.setMemory m e).ports = s.ports := rfl
@[simp] theorem State.setMemory_sched (s : State) (m : MemId) (e : MemoryEntry) : (s.setMemory m e).sched = s.sched := rfl
@[simp] theorem State.setMemory_notices (s : State) (m : MemId) (e : MemoryEntry) : (s.setMemory m e).notices = s.notices := rfl
@[simp] theorem State.setMemory_esc (s : State) (m : MemId) (e : MemoryEntry) : (s.setMemory m e).esc = s.esc := rfl
@[simp] theorem State.setMemory_time (s : State) (m : MemId) (e : MemoryEntry) : (s.setMemory m e).time = s.time := rfl
@[simp] theorem State.setMemory_win (s : State) (m : MemId) (e : MemoryEntry) : (s.setMemory m e).win = s.win := rfl
@[simp] theorem State.setMemory_resets (s : State) (m : MemId) (e : MemoryEntry) : (s.setMemory m e).resets = s.resets := rfl
@[simp] theorem State.setMemory_pending (s : State) (m : MemId) (e : MemoryEntry) : (s.setMemory m e).pending = s.pending := rfl
@[simp] theorem State.setMemory_engine_mode (s : State) (m : MemId) (e : MemoryEntry) :
    (s.setMemory m e).engine.mode = s.engine.mode := rfl
@[simp] theorem State.setMemory_engine_cTable (s : State) (m : MemId) (e : MemoryEntry) :
    (s.setMemory m e).engine.cTable = s.engine.cTable := rfl
@[simp] theorem State.setMemory_engine_sTable (s : State) (m : MemId) (e : MemoryEntry) :
    (s.setMemory m e).engine.sTable = s.engine.sTable := rfl
@[simp] theorem State.setMemory_engine_pinnedCount (s : State) (m : MemId) (e : MemoryEntry) :
    (s.setMemory m e).engine.pinnedCount = s.engine.pinnedCount := rfl
@[simp] theorem State.setMemory_engine_cFullArmed (s : State) (m : MemId) (e : MemoryEntry) :
    (s.setMemory m e).engine.cFullArmed = s.engine.cFullArmed := rfl
@[simp] theorem State.setMemory_engine_lastServed (s : State) (m : MemId) (e : MemoryEntry) :
    (s.setMemory m e).engine.lastServed = s.engine.lastServed := rfl
@[simp] theorem State.setMemory_engine_memories (s : State) (m : MemId) (e : MemoryEntry) :
    (s.setMemory m e).engine.memories = s.engine.memories.set m.val e := rfl
@[simp] theorem State.setMemory_engine_ranges (s : State) (m : MemId) (e : MemoryEntry) :
    (s.setMemory m e).engine.ranges = s.engine.ranges := rfl
@[simp] theorem State.setMemory_engine_regions (s : State) (m : MemId) (e : MemoryEntry) :
    (s.setMemory m e).engine.regions = s.engine.regions := rfl

/-! ## setJobs -/

@[simp] theorem State.setJobs_engine (s : State) (q : List Job) : (s.setJobs q).engine = s.engine := rfl
@[simp] theorem State.setJobs_ports (s : State) (q : List Job) : (s.setJobs q).ports = s.ports := rfl
@[simp] theorem State.setJobs_notices (s : State) (q : List Job) : (s.setJobs q).notices = s.notices := rfl
@[simp] theorem State.setJobs_esc (s : State) (q : List Job) : (s.setJobs q).esc = s.esc := rfl
@[simp] theorem State.setJobs_time (s : State) (q : List Job) : (s.setJobs q).time = s.time := rfl
@[simp] theorem State.setJobs_win (s : State) (q : List Job) : (s.setJobs q).win = s.win := rfl
@[simp] theorem State.setJobs_resets (s : State) (q : List Job) : (s.setJobs q).resets = s.resets := rfl
@[simp] theorem State.setJobs_pending (s : State) (q : List Job) : (s.setJobs q).pending = s.pending := rfl
@[simp] theorem State.setJobs_sched_jobs (s : State) (q : List Job) : (s.setJobs q).sched.jobs = q := rfl
@[simp] theorem State.setJobs_sched_answered (s : State) (q : List Job) : (s.setJobs q).sched.answered = s.sched.answered := rfl
@[simp] theorem State.setJobs_sched_tagCounters (s : State) (q : List Job) : (s.setJobs q).sched.tagCounters = s.sched.tagCounters := rfl
@[simp] theorem State.setJobs_sched_nextJob (s : State) (q : List Job) : (s.setJobs q).sched.nextJob = s.sched.nextJob := rfl
@[simp] theorem State.setJobs_sched_handovers (s : State) (q : List Job) : (s.setJobs q).sched.handovers = s.sched.handovers := rfl

/-! ## complete -/

@[simp] theorem complete_engine (r : Result) (v : Option (Vector Word 8)) (s : State) : (complete r v s).engine = s.engine := rfl
@[simp] theorem complete_ports (r : Result) (v : Option (Vector Word 8)) (s : State) : (complete r v s).ports = s.ports := rfl
@[simp] theorem complete_sched (r : Result) (v : Option (Vector Word 8)) (s : State) : (complete r v s).sched = s.sched := rfl
@[simp] theorem complete_notices (r : Result) (v : Option (Vector Word 8)) (s : State) : (complete r v s).notices = s.notices := rfl
@[simp] theorem complete_esc (r : Result) (v : Option (Vector Word 8)) (s : State) : (complete r v s).esc = s.esc := rfl
@[simp] theorem complete_time (r : Result) (v : Option (Vector Word 8)) (s : State) : (complete r v s).time = s.time := rfl
@[simp] theorem complete_resets (r : Result) (v : Option (Vector Word 8)) (s : State) : (complete r v s).resets = s.resets := rfl
@[simp] theorem complete_pending (r : Result) (v : Option (Vector Word 8)) (s : State) : (complete r v s).pending = s.pending := rfl
@[simp] theorem complete_win_cmdState (r : Result) (v : Option (Vector Word 8)) (s : State) :
    (complete r v s).win.cmdState = .done := rfl
@[simp] theorem complete_win_result (r : Result) (v : Option (Vector Word 8)) (s : State) :
    (complete r v s).win.result = some r := rfl
@[simp] theorem complete_win_code (r : Result) (v : Option (Vector Word 8)) (s : State) :
    (complete r v s).win.code = s.win.code := rfl
@[simp] theorem complete_win_overrun (r : Result) (v : Option (Vector Word 8)) (s : State) :
    (complete r v s).win.overrun = s.win.overrun := rfl
@[simp] theorem complete_win_unseen (r : Result) (v : Option (Vector Word 8)) (s : State) :
    (complete r v s).win.unseen = true := rfl
@[simp] theorem complete_win_command (r : Result) (v : Option (Vector Word 8)) (s : State) :
    (complete r v s).win.command = none := rfl
@[simp] theorem complete_win_noticeEnable (r : Result) (v : Option (Vector Word 8)) (s : State) :
    (complete r v s).win.noticeEnable = s.win.noticeEnable := rfl
@[simp] theorem complete_win_commandEnable (r : Result) (v : Option (Vector Word 8)) (s : State) :
    (complete r v s).win.commandEnable = s.win.commandEnable := rfl
@[simp] theorem complete_win_params (r : Result) (v : Option (Vector Word 8)) (s : State) :
    (complete r v s).win.params = s.win.params := rfl
@[simp] theorem complete_win_views (r : Result) (v : Option (Vector Word 8)) (s : State) :
    (complete r v s).win.views = v.getD s.win.views := rfl
@[simp] theorem complete_win_stampHold (r : Result) (v : Option (Vector Word 8)) (s : State) :
    (complete r v s).win.stampHold = s.win.stampHold := rfl
@[simp] theorem complete_win_settings (r : Result) (v : Option (Vector Word 8)) (s : State) :
    (complete r v s).win.settings = s.win.settings := rfl
@[simp] theorem complete_win_readData (r : Result) (v : Option (Vector Word 8)) (s : State) :
    (complete r v s).win.readData = s.win.readData := rfl

end Sys2Proof.Machine
end

