-- ==== Sys2Proof/Laws/Search.lean ====
section
/-! SUPPORT. Searches of slots, tables, queues and regions: what a search answers, from what stands in the slots. -/

namespace Sys2Proof.Machine

/-! ## Vectors indexed by a Fin -/

theorem set_get_same {α : Type} {n : Nat} (v : Vector α n) (i : Fin n) (x : α) :
    (v.set i.val x)[i] = x := by simp

theorem set_get_other {α : Type} {n : Nat} (v : Vector α n) (i j : Fin n) (x : α) (h : i ≠ j) :
    (v.set i.val x)[j] = v[j] := by
  have : i.val ≠ j.val := fun e => h (Fin.ext e)
  simp [this]

theorem set_get {α : Type} {n : Nat} (v : Vector α n) (i j : Fin n) (x : α) :
    (v.set i.val x)[j] = if i = j then x else v[j] := by
  by_cases h : i = j
  · subst h; simp
  · simp [h, set_get_other v i j x h]

@[simp] theorem set_set {α : Type} {n : Nat} (v : Vector α n) (i : Fin n) (x y : α) :
    (v.set i.val x).set i.val y = v.set i.val y := by
  ext k hk; by_cases h : i.val = k <;> simp [h]

@[simp] theorem set_get_self {α : Type} {n : Nat} (v : Vector α n) (i : Fin n) :
    v.set i.val v[i] = v := by simp

theorem ofFn_get {α : Type} {n : Nat} (f : Fin n → α) (i : Fin n) : (Vector.ofFn f)[i] = f i := by
  simp

theorem vec_ext {α : Type} {n : Nat} {v w : Vector α n} (h : ∀ i : Fin n, v[i] = w[i]) : v = w := by
  ext k hk; exact h ⟨k, hk⟩

/-! ## Searches in rising order -/

theorem findSome_finRange {n : Nat} {β : Type} (f : Fin n → Option β) (i : Fin n) (b : β) (h : f i = some b)
    (low : ∀ j, j < i → f j = none) : (List.finRange n).findSome? f = some b := by
  obtain ⟨l, r, e⟩ := List.append_of_mem (List.mem_finRange i)
  rw [List.findSome?_eq_some_iff]
  refine ⟨l, i, r, e, h, fun x hx => low x ?_⟩
  have p := List.pairwise_lt_finRange n
  rw [e, List.pairwise_append] at p
  exact p.2.2 x hx i (by simp)

theorem findSome_finRange_none {n : Nat} {β : Type} (f : Fin n → Option β) (h : ∀ j, f j = none) :
    (List.finRange n).findSome? f = none := by
  simp [List.findSome?_eq_none_iff, h]

theorem find_finRange {n : Nat} (p : Fin n → Bool) (i : Fin n) (h : p i = true)
    (low : ∀ j, j < i → p j = false) : (List.finRange n).find? p = some i := by
  obtain ⟨l, r, e⟩ := List.append_of_mem (List.mem_finRange i)
  rw [List.find?_eq_some_iff_append]
  refine ⟨h, l, r, e, fun x hx => ?_⟩
  have q := List.pairwise_lt_finRange n
  rw [e, List.pairwise_append] at q
  simp [low x (q.2.2 x hx i (by simp))]

theorem find_finRange_none {n : Nat} (p : Fin n → Bool) (h : ∀ j, p j = false) :
    (List.finRange n).find? p = none := by
  simp [List.find?_eq_none, h]

/-! ## The record tables -/

/-- The look-up of a key in the C-table finds the record of the lowest slot that holds it (R2). -/
theorem findC_of_held {s : State} {k : Key} {slot : CSlot} {r : CRecord} (h : HeldInC k slot r s) :
    s.findC k = some (slot, r) := by
  obtain ⟨h1, h2, h3, -⟩ := h
  refine findSome_finRange _ slot _ (by simp [h1, h2]) fun j hj => ?_
  cases e : s.engine.cTable[j] with
  | none => rfl
  | some r' => simp [h3 j r' hj e]

theorem findC_none {s : State} {k : Key}
    (h : ∀ (i : CSlot) (r : CRecord), s.engine.cTable[i] = some r → r.core.key ≠ k) : s.findC k = none := by
  refine findSome_finRange_none _ fun j => ?_
  cases e : s.engine.cTable[j] with
  | none => rfl
  | some r' => simp [h j r' e]

/-- The look-up of a key in the S-table finds the record of the lowest slot that holds it (R2). -/
theorem findS_of_held {s : State} {k : Key} {slot : SSlot} {r : SRecord} (h : HeldInS k slot r s) :
    s.findS k = some (slot, r) := by
  obtain ⟨h1, h2, h3⟩ := h
  refine findSome_finRange _ slot _ (by simp [h1, h2]) fun j hj => ?_
  cases e : s.engine.sTable[j] with
  | none => rfl
  | some r' => simp [h3 j r' hj e]

theorem findS_none {s : State} {k : Key}
    (h : ∀ (i : SSlot) (r : SRecord), s.engine.sTable[i] = some r → r.core.key ≠ k) : s.findS k = none := by
  refine findSome_finRange_none _ fun j => ?_
  cases e : s.engine.sTable[j] with
  | none => rfl
  | some r' => simp [h j r' e]

/-- What a successful look-up in the C-table says of the slot. -/
theorem findC_some {s : State} {k : Key} {slot : CSlot} {r : CRecord} (h : s.findC k = some (slot, r)) :
    s.engine.cTable[slot] = some r ∧ r.core.key = k := by
  obtain ⟨i, -, hi⟩ := List.exists_of_findSome?_eq_some h
  split at hi
  · rename_i r' e
    split at hi
    · rename_i hk; cases hi; exact ⟨e, hk⟩
    · cases hi
  · cases hi

/-- What a successful look-up in the S-table says of the slot. -/
theorem findS_some {s : State} {k : Key} {slot : SSlot} {r : SRecord} (h : s.findS k = some (slot, r)) :
    s.engine.sTable[slot] = some r ∧ r.core.key = k := by
  obtain ⟨i, -, hi⟩ := List.exists_of_findSome?_eq_some h
  split at hi
  · rename_i r' e
    split at hi
    · rename_i hk; cases hi; exact ⟨e, hk⟩
    · cases hi
  · cases hi

/-- A failed look-up in the C-table says that no slot holds the key. -/
theorem not_held_of_findC {s : State} {k : Key} (h : s.findC k = none) (i : CSlot) (r : CRecord)
    (e : s.engine.cTable[i] = some r) : r.core.key ≠ k := by
  intro hk
  have := List.findSome?_eq_none_iff.mp h i (List.mem_finRange i)
  simp [e, hk] at this

/-- A failed look-up in the S-table says that no slot holds the key. -/
theorem not_held_of_findS {s : State} {k : Key} (h : s.findS k = none) (i : SSlot) (r : SRecord)
    (e : s.engine.sTable[i] = some r) : r.core.key ≠ k := by
  intro hk
  have := List.findSome?_eq_none_iff.mp h i (List.mem_finRange i)
  simp [e, hk] at this

theorem freeC_of_lowest {s : State} {slot : CSlot} (h : LowestFreeC slot s) : s.freeC = some slot := by
  refine find_finRange _ slot (by simp [h.1]) fun j hj => ?_
  have := h.2 j hj
  cases e : s.engine.cTable[j] <;> simp_all

theorem freeC_none {s : State} (h : ∀ i : CSlot, s.engine.cTable[i] ≠ none) : s.freeC = none := by
  refine find_finRange_none _ fun j => ?_
  have := h j
  cases e : s.engine.cTable[j] <;> simp_all

theorem freeS_of_lowest {s : State} {slot : SSlot} (h : LowestFreeS slot s) : s.freeS = some slot := by
  refine find_finRange _ slot (by simp [h.1]) fun j hj => ?_
  have := h.2 j hj
  cases e : s.engine.sTable[j] <;> simp_all

theorem freeS_none {s : State} (h : ∀ i : SSlot, s.engine.sTable[i] ≠ none) : s.freeS = none := by
  refine find_finRange_none _ fun j => ?_
  have := h j
  cases e : s.engine.sTable[j] <;> simp_all

/-- A free C slot that the search answers is free. -/
theorem freeC_some {s : State} {slot : CSlot} (h : s.freeC = some slot) : s.engine.cTable[slot] = none := by
  simpa using List.find?_some h

/-- A free S slot that the search answers is free. -/
theorem freeS_some {s : State} {slot : SSlot} (h : s.freeS = some slot) : s.engine.sTable[slot] = none := by
  simpa using List.find?_some h

/-! ## The report feed -/

/-- The report that is due is the one the engine takes (R63, R64). -/
theorem nextReport_of_due {s : State} {ix : PortIx} {rep : Report} (h : ReportDue ix rep s) :
    nextReport s = some (ix, rep) := by
  obtain ⟨-, -, -, -, before, after, rest, e, hb, hq⟩ := h
  unfold nextReport
  rw [List.findSome?_eq_some_iff]
  refine ⟨before, ix, after, e, by rw [hq]; rfl, fun x hx => by rw [hb x hx]; rfl⟩

/-- The report feed is open where a report is due (R63). -/
theorem reportsOpen_of_due {s : State} {ix : PortIx} {rep : Report} (h : ReportDue ix rep s) :
    s.reportsOpen = true := by
  obtain ⟨-, h1, h2, h3, -⟩ := h
  have : s.engineCommandPending = false := by
    unfold State.engineCommandPending
    split
    · rename_i c e; exact absurd e (h3 c)
    · rfl
  simp [State.reportsOpen, h1, h2, this]

end Sys2Proof.Machine
end

