-- ==== Sys2Proof/Laws/Frames.lean ====
section
/-! SUPPORT. What each shared operation leaves unchanged, and the law that says what it can do. -/

namespace Sys2Proof.Machine

/-! ## takeCause -/

@[simp] theorem takeCause_engine (kind : CauseKind) (seq : Option Word) (key : Option Key) (s : State) : (takeCause kind seq key s).engine = s.engine := by
  unfold takeCause; split <;> rfl
@[simp] theorem takeCause_ports (kind : CauseKind) (seq : Option Word) (key : Option Key) (s : State) : (takeCause kind seq key s).ports = s.ports := by
  unfold takeCause; split <;> rfl
@[simp] theorem takeCause_sched (kind : CauseKind) (seq : Option Word) (key : Option Key) (s : State) : (takeCause kind seq key s).sched = s.sched := by
  unfold takeCause; split <;> rfl
@[simp] theorem takeCause_notices (kind : CauseKind) (seq : Option Word) (key : Option Key) (s : State) : (takeCause kind seq key s).notices = s.notices := by
  unfold takeCause; split <;> rfl
@[simp] theorem takeCause_time (kind : CauseKind) (seq : Option Word) (key : Option Key) (s : State) : (takeCause kind seq key s).time = s.time := by
  unfold takeCause; split <;> rfl
@[simp] theorem takeCause_win (kind : CauseKind) (seq : Option Word) (key : Option Key) (s : State) : (takeCause kind seq key s).win = s.win := by
  unfold takeCause; split <;> rfl
@[simp] theorem takeCause_resets (kind : CauseKind) (seq : Option Word) (key : Option Key) (s : State) : (takeCause kind seq key s).resets = s.resets := by
  unfold takeCause; split <;> rfl
@[simp] theorem takeCause_pending (kind : CauseKind) (seq : Option Word) (key : Option Key) (s : State) : (takeCause kind seq key s).pending = s.pending := by
  unfold takeCause; split <;> rfl

/-! ## enterNotice -/

@[simp] theorem enterNotice_engine (body : NoticeBody) (dated : Bool) (s : State) : (enterNotice body dated s).engine = s.engine := by
  rfl
@[simp] theorem enterNotice_ports (body : NoticeBody) (dated : Bool) (s : State) : (enterNotice body dated s).ports = s.ports := by
  rfl
@[simp] theorem enterNotice_sched (body : NoticeBody) (dated : Bool) (s : State) : (enterNotice body dated s).sched = s.sched := by
  rfl
@[simp] theorem enterNotice_esc (body : NoticeBody) (dated : Bool) (s : State) : (enterNotice body dated s).esc = s.esc := by
  rfl
@[simp] theorem enterNotice_time (body : NoticeBody) (dated : Bool) (s : State) : (enterNotice body dated s).time = s.time := by
  rfl
@[simp] theorem enterNotice_win (body : NoticeBody) (dated : Bool) (s : State) : (enterNotice body dated s).win = s.win := by
  rfl
@[simp] theorem enterNotice_resets (body : NoticeBody) (dated : Bool) (s : State) : (enterNotice body dated s).resets = s.resets := by
  rfl
@[simp] theorem enterNotice_pending (body : NoticeBody) (dated : Bool) (s : State) : (enterNotice body dated s).pending = s.pending := by
  rfl

/-! ## loseNotice -/

@[simp] theorem loseNotice_engine (s : State) : (loseNotice s).engine = s.engine := by
  rfl
@[simp] theorem loseNotice_ports (s : State) : (loseNotice s).ports = s.ports := by
  rfl
@[simp] theorem loseNotice_sched (s : State) : (loseNotice s).sched = s.sched := by
  rfl
@[simp] theorem loseNotice_esc (s : State) : (loseNotice s).esc = s.esc := by
  rfl
@[simp] theorem loseNotice_time (s : State) : (loseNotice s).time = s.time := by
  rfl
@[simp] theorem loseNotice_win (s : State) : (loseNotice s).win = s.win := by
  rfl
@[simp] theorem loseNotice_resets (s : State) : (loseNotice s).resets = s.resets := by
  rfl
@[simp] theorem loseNotice_pending (s : State) : (loseNotice s).pending = s.pending := by
  rfl

@[simp] theorem takeCause_notices_entries (kind : CauseKind) (seq : Option Word) (key : Option Key) (s : State) :
    (takeCause kind seq key s).notices.entries = s.notices.entries := by simp

/-! ## post -/

@[simp] theorem post_engine (body : NoticeBody) (dated : Bool) (s : State) : (post body dated s).engine = s.engine := by
  unfold post; split; · simp
  split <;> simp
@[simp] theorem post_ports (body : NoticeBody) (dated : Bool) (s : State) : (post body dated s).ports = s.ports := by
  unfold post; split; · simp
  split <;> simp
@[simp] theorem post_sched (body : NoticeBody) (dated : Bool) (s : State) : (post body dated s).sched = s.sched := by
  unfold post; split; · simp
  split <;> simp
@[simp] theorem post_time (body : NoticeBody) (dated : Bool) (s : State) : (post body dated s).time = s.time := by
  unfold post; split; · simp
  split <;> simp
@[simp] theorem post_win (body : NoticeBody) (dated : Bool) (s : State) : (post body dated s).win = s.win := by
  unfold post; split; · simp
  split <;> simp
@[simp] theorem post_resets (body : NoticeBody) (dated : Bool) (s : State) : (post body dated s).resets = s.resets := by
  unfold post; split; · simp
  split <;> simp
@[simp] theorem post_pending (body : NoticeBody) (dated : Bool) (s : State) : (post body dated s).pending = s.pending := by
  unfold post; split; · simp
  split <;> simp

/-! ## postSevere -/

@[simp] theorem postSevere_engine (ref : RecRef) (core : RecordCore) (b : Bool) (s : State) : (postSevere ref core b s).engine = s.engine := by
  unfold postSevere; split <;> simp
@[simp] theorem postSevere_ports (ref : RecRef) (core : RecordCore) (b : Bool) (s : State) : (postSevere ref core b s).ports = s.ports := by
  unfold postSevere; split <;> simp
@[simp] theorem postSevere_sched (ref : RecRef) (core : RecordCore) (b : Bool) (s : State) : (postSevere ref core b s).sched = s.sched := by
  unfold postSevere; split <;> simp
@[simp] theorem postSevere_time (ref : RecRef) (core : RecordCore) (b : Bool) (s : State) : (postSevere ref core b s).time = s.time := by
  unfold postSevere; split <;> simp
@[simp] theorem postSevere_win (ref : RecRef) (core : RecordCore) (b : Bool) (s : State) : (postSevere ref core b s).win = s.win := by
  unfold postSevere; split <;> simp
@[simp] theorem postSevere_resets (ref : RecRef) (core : RecordCore) (b : Bool) (s : State) : (postSevere ref core b s).resets = s.resets := by
  unfold postSevere; split <;> simp
@[simp] theorem postSevere_pending (ref : RecRef) (core : RecordCore) (b : Bool) (s : State) : (postSevere ref core b s).pending = s.pending := by
  unfold postSevere; split <;> simp

/-! ## handOver -/

@[simp] theorem handOver_engine (ix : PortIx) (h : Handover) (s : State) : (handOver ix h s).engine = s.engine := by
  rfl
@[simp] theorem handOver_ports (ix : PortIx) (h : Handover) (s : State) : (handOver ix h s).ports = s.ports := by
  rfl
@[simp] theorem handOver_notices (ix : PortIx) (h : Handover) (s : State) : (handOver ix h s).notices = s.notices := by
  rfl
@[simp] theorem handOver_esc (ix : PortIx) (h : Handover) (s : State) : (handOver ix h s).esc = s.esc := by
  rfl
@[simp] theorem handOver_time (ix : PortIx) (h : Handover) (s : State) : (handOver ix h s).time = s.time := by
  rfl
@[simp] theorem handOver_win (ix : PortIx) (h : Handover) (s : State) : (handOver ix h s).win = s.win := by
  rfl
@[simp] theorem handOver_resets (ix : PortIx) (h : Handover) (s : State) : (handOver ix h s).resets = s.resets := by
  rfl
@[simp] theorem handOver_pending (ix : PortIx) (h : Handover) (s : State) : (handOver ix h s).pending = s.pending := by
  rfl
@[simp] theorem handOver_sched_jobs (ix : PortIx) (h : Handover) (s : State) : (handOver ix h s).sched.jobs = s.sched.jobs := by
  rfl
@[simp] theorem handOver_sched_answered (ix : PortIx) (h : Handover) (s : State) : (handOver ix h s).sched.answered = s.sched.answered := by
  rfl
@[simp] theorem handOver_sched_tagCounters (ix : PortIx) (h : Handover) (s : State) : (handOver ix h s).sched.tagCounters = s.sched.tagCounters := by
  rfl
@[simp] theorem handOver_sched_nextJob (ix : PortIx) (h : Handover) (s : State) : (handOver ix h s).sched.nextJob = s.sched.nextJob := by
  rfl

/-! ## returnToHead -/

@[simp] theorem returnToHead_engine (j : Job) (s : State) : (returnToHead j s).engine = s.engine := by
  rfl
@[simp] theorem returnToHead_ports (j : Job) (s : State) : (returnToHead j s).ports = s.ports := by
  rfl
@[simp] theorem returnToHead_notices (j : Job) (s : State) : (returnToHead j s).notices = s.notices := by
  rfl
@[simp] theorem returnToHead_esc (j : Job) (s : State) : (returnToHead j s).esc = s.esc := by
  rfl
@[simp] theorem returnToHead_time (j : Job) (s : State) : (returnToHead j s).time = s.time := by
  rfl
@[simp] theorem returnToHead_win (j : Job) (s : State) : (returnToHead j s).win = s.win := by
  rfl
@[simp] theorem returnToHead_resets (j : Job) (s : State) : (returnToHead j s).resets = s.resets := by
  rfl
@[simp] theorem returnToHead_pending (j : Job) (s : State) : (returnToHead j s).pending = s.pending := by
  rfl
@[simp] theorem returnToHead_sched_answered (j : Job) (s : State) : (returnToHead j s).sched.answered = s.sched.answered := by
  rfl
@[simp] theorem returnToHead_sched_tagCounters (j : Job) (s : State) : (returnToHead j s).sched.tagCounters = s.sched.tagCounters := by
  rfl
@[simp] theorem returnToHead_sched_nextJob (j : Job) (s : State) : (returnToHead j s).sched.nextJob = s.sched.nextJob := by
  rfl
@[simp] theorem returnToHead_sched_handovers (j : Job) (s : State) : (returnToHead j s).sched.handovers = s.sched.handovers := by
  rfl

/-! ## returnJob -/

@[simp] theorem returnJob_engine (ix : PortIx) (tag : Tag) (s : State) : (returnJob ix tag s).engine = s.engine := by
  unfold returnJob; split <;> simp
@[simp] theorem returnJob_ports (ix : PortIx) (tag : Tag) (s : State) : (returnJob ix tag s).ports = s.ports := by
  unfold returnJob; split <;> simp
@[simp] theorem returnJob_notices (ix : PortIx) (tag : Tag) (s : State) : (returnJob ix tag s).notices = s.notices := by
  unfold returnJob; split <;> simp
@[simp] theorem returnJob_esc (ix : PortIx) (tag : Tag) (s : State) : (returnJob ix tag s).esc = s.esc := by
  unfold returnJob; split <;> simp
@[simp] theorem returnJob_time (ix : PortIx) (tag : Tag) (s : State) : (returnJob ix tag s).time = s.time := by
  unfold returnJob; split <;> simp
@[simp] theorem returnJob_win (ix : PortIx) (tag : Tag) (s : State) : (returnJob ix tag s).win = s.win := by
  unfold returnJob; split <;> simp
@[simp] theorem returnJob_resets (ix : PortIx) (tag : Tag) (s : State) : (returnJob ix tag s).resets = s.resets := by
  unfold returnJob; split <;> simp
@[simp] theorem returnJob_pending (ix : PortIx) (tag : Tag) (s : State) : (returnJob ix tag s).pending = s.pending := by
  unfold returnJob; split <;> simp
@[simp] theorem returnJob_sched_answered (ix : PortIx) (tag : Tag) (s : State) : (returnJob ix tag s).sched.answered = s.sched.answered := by
  unfold returnJob; split <;> simp
@[simp] theorem returnJob_sched_tagCounters (ix : PortIx) (tag : Tag) (s : State) : (returnJob ix tag s).sched.tagCounters = s.sched.tagCounters := by
  unfold returnJob; split <;> simp
@[simp] theorem returnJob_sched_nextJob (ix : PortIx) (tag : Tag) (s : State) : (returnJob ix tag s).sched.nextJob = s.sched.nextJob := by
  unfold returnJob; split <;> simp
@[simp] theorem returnJob_sched_handovers (ix : PortIx) (tag : Tag) (s : State) : (returnJob ix tag s).sched.handovers = s.sched.handovers := by
  unfold returnJob; split <;> simp

/-! ## removeJob -/

@[simp] theorem removeJob_engine (slot : CSlot) (s : State) : (removeJob slot s).engine = s.engine := by
  rfl
@[simp] theorem removeJob_ports (slot : CSlot) (s : State) : (removeJob slot s).ports = s.ports := by
  rfl
@[simp] theorem removeJob_notices (slot : CSlot) (s : State) : (removeJob slot s).notices = s.notices := by
  rfl
@[simp] theorem removeJob_esc (slot : CSlot) (s : State) : (removeJob slot s).esc = s.esc := by
  rfl
@[simp] theorem removeJob_time (slot : CSlot) (s : State) : (removeJob slot s).time = s.time := by
  rfl
@[simp] theorem removeJob_win (slot : CSlot) (s : State) : (removeJob slot s).win = s.win := by
  rfl
@[simp] theorem removeJob_resets (slot : CSlot) (s : State) : (removeJob slot s).resets = s.resets := by
  rfl
@[simp] theorem removeJob_pending (slot : CSlot) (s : State) : (removeJob slot s).pending = s.pending := by
  rfl
@[simp] theorem removeJob_sched_tagCounters (slot : CSlot) (s : State) : (removeJob slot s).sched.tagCounters = s.sched.tagCounters := by
  rfl
@[simp] theorem removeJob_sched_nextJob (slot : CSlot) (s : State) : (removeJob slot s).sched.nextJob = s.sched.nextJob := by
  rfl
@[simp] theorem removeJob_sched_handovers (slot : CSlot) (s : State) : (removeJob slot s).sched.handovers = s.sched.handovers := by
  rfl

/-! ## withdrawalHandover -/

@[simp] theorem withdrawalHandover_engine (m : JobMode) (s : State) : (withdrawalHandover m s).engine = s.engine := by
  unfold withdrawalHandover; split <;> simp
@[simp] theorem withdrawalHandover_ports (m : JobMode) (s : State) : (withdrawalHandover m s).ports = s.ports := by
  unfold withdrawalHandover; split <;> simp
@[simp] theorem withdrawalHandover_notices (m : JobMode) (s : State) : (withdrawalHandover m s).notices = s.notices := by
  unfold withdrawalHandover; split <;> simp
@[simp] theorem withdrawalHandover_esc (m : JobMode) (s : State) : (withdrawalHandover m s).esc = s.esc := by
  unfold withdrawalHandover; split <;> simp
@[simp] theorem withdrawalHandover_time (m : JobMode) (s : State) : (withdrawalHandover m s).time = s.time := by
  unfold withdrawalHandover; split <;> simp
@[simp] theorem withdrawalHandover_win (m : JobMode) (s : State) : (withdrawalHandover m s).win = s.win := by
  unfold withdrawalHandover; split <;> simp
@[simp] theorem withdrawalHandover_resets (m : JobMode) (s : State) : (withdrawalHandover m s).resets = s.resets := by
  unfold withdrawalHandover; split <;> simp
@[simp] theorem withdrawalHandover_pending (m : JobMode) (s : State) : (withdrawalHandover m s).pending = s.pending := by
  unfold withdrawalHandover; split <;> simp
@[simp] theorem withdrawalHandover_sched_jobs (m : JobMode) (s : State) : (withdrawalHandover m s).sched.jobs = s.sched.jobs := by
  unfold withdrawalHandover; split <;> simp
@[simp] theorem withdrawalHandover_sched_answered (m : JobMode) (s : State) : (withdrawalHandover m s).sched.answered = s.sched.answered := by
  unfold withdrawalHandover; split <;> simp
@[simp] theorem withdrawalHandover_sched_tagCounters (m : JobMode) (s : State) : (withdrawalHandover m s).sched.tagCounters = s.sched.tagCounters := by
  unfold withdrawalHandover; split <;> simp
@[simp] theorem withdrawalHandover_sched_nextJob (m : JobMode) (s : State) : (withdrawalHandover m s).sched.nextJob = s.sched.nextJob := by
  unfold withdrawalHandover; split <;> simp

/-! ## withdraw -/

@[simp] theorem withdraw_engine (slot : CSlot) (s : State) : (withdraw slot s).engine = s.engine := by
  unfold withdraw; split <;> simp
@[simp] theorem withdraw_ports (slot : CSlot) (s : State) : (withdraw slot s).ports = s.ports := by
  unfold withdraw; split <;> simp
@[simp] theorem withdraw_notices (slot : CSlot) (s : State) : (withdraw slot s).notices = s.notices := by
  unfold withdraw; split <;> simp
@[simp] theorem withdraw_esc (slot : CSlot) (s : State) : (withdraw slot s).esc = s.esc := by
  unfold withdraw; split <;> simp
@[simp] theorem withdraw_time (slot : CSlot) (s : State) : (withdraw slot s).time = s.time := by
  unfold withdraw; split <;> simp
@[simp] theorem withdraw_win (slot : CSlot) (s : State) : (withdraw slot s).win = s.win := by
  unfold withdraw; split <;> simp
@[simp] theorem withdraw_resets (slot : CSlot) (s : State) : (withdraw slot s).resets = s.resets := by
  unfold withdraw; split <;> simp
@[simp] theorem withdraw_pending (slot : CSlot) (s : State) : (withdraw slot s).pending = s.pending := by
  unfold withdraw; split <;> simp
@[simp] theorem withdraw_sched_tagCounters (slot : CSlot) (s : State) : (withdraw slot s).sched.tagCounters = s.sched.tagCounters := by
  unfold withdraw; split <;> simp
@[simp] theorem withdraw_sched_nextJob (slot : CSlot) (s : State) : (withdraw slot s).sched.nextJob = s.sched.nextJob := by
  unfold withdraw; split <;> simp

/-! ## answerJob -/

@[simp] theorem answerJob_engine (j : Job) (ix : PortIx) (tag : Tag) (a : Answer) (s : State) : (answerJob j ix tag a s).engine = s.engine := by
  rfl
@[simp] theorem answerJob_ports (j : Job) (ix : PortIx) (tag : Tag) (a : Answer) (s : State) : (answerJob j ix tag a s).ports = s.ports := by
  rfl
@[simp] theorem answerJob_notices (j : Job) (ix : PortIx) (tag : Tag) (a : Answer) (s : State) : (answerJob j ix tag a s).notices = s.notices := by
  rfl
@[simp] theorem answerJob_esc (j : Job) (ix : PortIx) (tag : Tag) (a : Answer) (s : State) : (answerJob j ix tag a s).esc = s.esc := by
  rfl
@[simp] theorem answerJob_time (j : Job) (ix : PortIx) (tag : Tag) (a : Answer) (s : State) : (answerJob j ix tag a s).time = s.time := by
  rfl
@[simp] theorem answerJob_win (j : Job) (ix : PortIx) (tag : Tag) (a : Answer) (s : State) : (answerJob j ix tag a s).win = s.win := by
  rfl
@[simp] theorem answerJob_resets (j : Job) (ix : PortIx) (tag : Tag) (a : Answer) (s : State) : (answerJob j ix tag a s).resets = s.resets := by
  rfl
@[simp] theorem answerJob_pending (j : Job) (ix : PortIx) (tag : Tag) (a : Answer) (s : State) : (answerJob j ix tag a s).pending = s.pending := by
  rfl
@[simp] theorem answerJob_sched_tagCounters (j : Job) (ix : PortIx) (tag : Tag) (a : Answer) (s : State) : (answerJob j ix tag a s).sched.tagCounters = s.sched.tagCounters := by
  rfl
@[simp] theorem answerJob_sched_nextJob (j : Job) (ix : PortIx) (tag : Tag) (a : Answer) (s : State) : (answerJob j ix tag a s).sched.nextJob = s.sched.nextJob := by
  rfl
@[simp] theorem answerJob_sched_handovers (j : Job) (ix : PortIx) (tag : Tag) (a : Answer) (s : State) : (answerJob j ix tag a s).sched.handovers = s.sched.handovers := by
  rfl

/-! ## enterJob -/

@[simp] theorem enterJob_ports (slot : CSlot) (r : CRecord) (cls : JobClass) (s : State) : (enterJob slot r cls s).ports = s.ports := by
  rfl
@[simp] theorem enterJob_notices (slot : CSlot) (r : CRecord) (cls : JobClass) (s : State) : (enterJob slot r cls s).notices = s.notices := by
  rfl
@[simp] theorem enterJob_esc (slot : CSlot) (r : CRecord) (cls : JobClass) (s : State) : (enterJob slot r cls s).esc = s.esc := by
  rfl
@[simp] theorem enterJob_time (slot : CSlot) (r : CRecord) (cls : JobClass) (s : State) : (enterJob slot r cls s).time = s.time := by
  rfl
@[simp] theorem enterJob_win (slot : CSlot) (r : CRecord) (cls : JobClass) (s : State) : (enterJob slot r cls s).win = s.win := by
  rfl
@[simp] theorem enterJob_resets (slot : CSlot) (r : CRecord) (cls : JobClass) (s : State) : (enterJob slot r cls s).resets = s.resets := by
  rfl
@[simp] theorem enterJob_pending (slot : CSlot) (r : CRecord) (cls : JobClass) (s : State) : (enterJob slot r cls s).pending = s.pending := by
  rfl
@[simp] theorem enterJob_sched_answered (slot : CSlot) (r : CRecord) (cls : JobClass) (s : State) : (enterJob slot r cls s).sched.answered = s.sched.answered := by
  rfl
@[simp] theorem enterJob_sched_tagCounters (slot : CSlot) (r : CRecord) (cls : JobClass) (s : State) : (enterJob slot r cls s).sched.tagCounters = s.sched.tagCounters := by
  rfl
@[simp] theorem enterJob_sched_handovers (slot : CSlot) (r : CRecord) (cls : JobClass) (s : State) : (enterJob slot r cls s).sched.handovers = s.sched.handovers := by
  rfl
@[simp] theorem enterJob_engine_sTable (slot : CSlot) (r : CRecord) (cls : JobClass) (s : State) : (enterJob slot r cls s).engine.sTable = s.engine.sTable := by
  rfl
@[simp] theorem enterJob_engine_memories (slot : CSlot) (r : CRecord) (cls : JobClass) (s : State) : (enterJob slot r cls s).engine.memories = s.engine.memories := by
  rfl
@[simp] theorem enterJob_engine_ranges (slot : CSlot) (r : CRecord) (cls : JobClass) (s : State) : (enterJob slot r cls s).engine.ranges = s.engine.ranges := by
  rfl
@[simp] theorem enterJob_engine_regions (slot : CSlot) (r : CRecord) (cls : JobClass) (s : State) : (enterJob slot r cls s).engine.regions = s.engine.regions := by
  rfl
@[simp] theorem enterJob_engine_mode (slot : CSlot) (r : CRecord) (cls : JobClass) (s : State) : (enterJob slot r cls s).engine.mode = s.engine.mode := by
  rfl
@[simp] theorem enterJob_engine_pinnedCount (slot : CSlot) (r : CRecord) (cls : JobClass) (s : State) : (enterJob slot r cls s).engine.pinnedCount = s.engine.pinnedCount := by
  rfl
@[simp] theorem enterJob_engine_cFullArmed (slot : CSlot) (r : CRecord) (cls : JobClass) (s : State) : (enterJob slot r cls s).engine.cFullArmed = s.engine.cFullArmed := by
  rfl
@[simp] theorem enterJob_engine_lastServed (slot : CSlot) (r : CRecord) (cls : JobClass) (s : State) : (enterJob slot r cls s).engine.lastServed = s.engine.lastServed := by
  rfl

@[simp] theorem enterJob_sched_nextJob (slot : CSlot) (r : CRecord) (cls : JobClass) (s : State) : (enterJob slot r cls s).sched.nextJob = s.sched.nextJob + 1 := by
  rfl

/-! ## removeC -/

@[simp] theorem removeC_ports (slot : CSlot) (r : CRecord) (s : State) : (removeC slot r s).ports = s.ports := by
  simp [removeC]
@[simp] theorem removeC_notices (slot : CSlot) (r : CRecord) (s : State) : (removeC slot r s).notices = s.notices := by
  simp [removeC]
@[simp] theorem removeC_esc (slot : CSlot) (r : CRecord) (s : State) : (removeC slot r s).esc = s.esc := by
  simp [removeC]
@[simp] theorem removeC_time (slot : CSlot) (r : CRecord) (s : State) : (removeC slot r s).time = s.time := by
  simp [removeC]
@[simp] theorem removeC_win (slot : CSlot) (r : CRecord) (s : State) : (removeC slot r s).win = s.win := by
  simp [removeC]
@[simp] theorem removeC_resets (slot : CSlot) (r : CRecord) (s : State) : (removeC slot r s).resets = s.resets := by
  simp [removeC]
@[simp] theorem removeC_pending (slot : CSlot) (r : CRecord) (s : State) : (removeC slot r s).pending = s.pending := by
  simp [removeC]
@[simp] theorem removeC_sched_tagCounters (slot : CSlot) (r : CRecord) (s : State) : (removeC slot r s).sched.tagCounters = s.sched.tagCounters := by
  simp [removeC]
@[simp] theorem removeC_sched_nextJob (slot : CSlot) (r : CRecord) (s : State) : (removeC slot r s).sched.nextJob = s.sched.nextJob := by
  simp [removeC]

/-! ## endRequest -/

@[simp] theorem endRequest_engine (ix : PortIx) (s : State) : (endRequest ix s).engine = s.engine := by
  unfold endRequest; split <;> simp
@[simp] theorem endRequest_notices (ix : PortIx) (s : State) : (endRequest ix s).notices = s.notices := by
  unfold endRequest; split <;> simp
@[simp] theorem endRequest_esc (ix : PortIx) (s : State) : (endRequest ix s).esc = s.esc := by
  unfold endRequest; split <;> simp
@[simp] theorem endRequest_time (ix : PortIx) (s : State) : (endRequest ix s).time = s.time := by
  unfold endRequest; split <;> simp
@[simp] theorem endRequest_win (ix : PortIx) (s : State) : (endRequest ix s).win = s.win := by
  unfold endRequest; split <;> simp
@[simp] theorem endRequest_resets (ix : PortIx) (s : State) : (endRequest ix s).resets = s.resets := by
  unfold endRequest; split <;> simp
@[simp] theorem endRequest_pending (ix : PortIx) (s : State) : (endRequest ix s).pending = s.pending := by
  unfold endRequest; split <;> simp

/-! ## haltPort -/

@[simp] theorem haltPort_engine (ix : PortIx) (s : State) : (haltPort ix s).engine = s.engine := by
  simp [haltPort]
@[simp] theorem haltPort_time (ix : PortIx) (s : State) : (haltPort ix s).time = s.time := by
  simp [haltPort]
@[simp] theorem haltPort_win (ix : PortIx) (s : State) : (haltPort ix s).win = s.win := by
  simp [haltPort]
@[simp] theorem haltPort_resets (ix : PortIx) (s : State) : (haltPort ix s).resets = s.resets := by
  simp [haltPort]
@[simp] theorem haltPort_pending (ix : PortIx) (s : State) : (haltPort ix s).pending = s.pending := by
  simp [haltPort]

/-! ## discardFrame -/

@[simp] theorem discardFrame_engine (ix : PortIx) (s : State) : (discardFrame ix s).engine = s.engine := by
  unfold discardFrame; dsimp only; split <;> simp
@[simp] theorem discardFrame_time (ix : PortIx) (s : State) : (discardFrame ix s).time = s.time := by
  unfold discardFrame; dsimp only; split <;> simp
@[simp] theorem discardFrame_win (ix : PortIx) (s : State) : (discardFrame ix s).win = s.win := by
  unfold discardFrame; dsimp only; split <;> simp
@[simp] theorem discardFrame_resets (ix : PortIx) (s : State) : (discardFrame ix s).resets = s.resets := by
  unfold discardFrame; dsimp only; split <;> simp
@[simp] theorem discardFrame_pending (ix : PortIx) (s : State) : (discardFrame ix s).pending = s.pending := by
  unfold discardFrame; dsimp only; split <;> simp

/-! ## setIgnoring -/

@[simp] theorem setIgnoring_engine (ix : PortIx) (b : Option Clocks) (s : State) : (setIgnoring ix b s).engine = s.engine := by
  rfl
@[simp] theorem setIgnoring_sched (ix : PortIx) (b : Option Clocks) (s : State) : (setIgnoring ix b s).sched = s.sched := by
  rfl
@[simp] theorem setIgnoring_notices (ix : PortIx) (b : Option Clocks) (s : State) : (setIgnoring ix b s).notices = s.notices := by
  rfl
@[simp] theorem setIgnoring_esc (ix : PortIx) (b : Option Clocks) (s : State) : (setIgnoring ix b s).esc = s.esc := by
  rfl
@[simp] theorem setIgnoring_time (ix : PortIx) (b : Option Clocks) (s : State) : (setIgnoring ix b s).time = s.time := by
  rfl
@[simp] theorem setIgnoring_win (ix : PortIx) (b : Option Clocks) (s : State) : (setIgnoring ix b s).win = s.win := by
  rfl
@[simp] theorem setIgnoring_resets (ix : PortIx) (b : Option Clocks) (s : State) : (setIgnoring ix b s).resets = s.resets := by
  rfl
@[simp] theorem setIgnoring_pending (ix : PortIx) (b : Option Clocks) (s : State) : (setIgnoring ix b s).pending = s.pending := by
  rfl

/-! ## startFrame -/

@[simp] theorem startFrame_engine (ix : PortIx) (low : Clocks) (s : State) : (startFrame ix low s).engine = s.engine := by
  rfl
@[simp] theorem startFrame_sched (ix : PortIx) (low : Clocks) (s : State) : (startFrame ix low s).sched = s.sched := by
  rfl
@[simp] theorem startFrame_notices (ix : PortIx) (low : Clocks) (s : State) : (startFrame ix low s).notices = s.notices := by
  rfl
@[simp] theorem startFrame_esc (ix : PortIx) (low : Clocks) (s : State) : (startFrame ix low s).esc = s.esc := by
  rfl
@[simp] theorem startFrame_time (ix : PortIx) (low : Clocks) (s : State) : (startFrame ix low s).time = s.time := by
  rfl
@[simp] theorem startFrame_win (ix : PortIx) (low : Clocks) (s : State) : (startFrame ix low s).win = s.win := by
  rfl
@[simp] theorem startFrame_resets (ix : PortIx) (low : Clocks) (s : State) : (startFrame ix low s).resets = s.resets := by
  rfl
@[simp] theorem startFrame_pending (ix : PortIx) (low : Clocks) (s : State) : (startFrame ix low s).pending = s.pending := by
  rfl

/-! ## openFrame -/

@[simp] theorem openFrame_engine (ix : PortIx) (high : Clocks) (low : Clocks) (s : State) : (openFrame ix high low s).engine = s.engine := by
  unfold openFrame; split; · rfl
  split <;> rfl
@[simp] theorem openFrame_sched (ix : PortIx) (high : Clocks) (low : Clocks) (s : State) : (openFrame ix high low s).sched = s.sched := by
  unfold openFrame; split; · rfl
  split <;> rfl
@[simp] theorem openFrame_notices (ix : PortIx) (high : Clocks) (low : Clocks) (s : State) : (openFrame ix high low s).notices = s.notices := by
  unfold openFrame; split; · rfl
  split <;> rfl
@[simp] theorem openFrame_esc (ix : PortIx) (high : Clocks) (low : Clocks) (s : State) : (openFrame ix high low s).esc = s.esc := by
  unfold openFrame; split; · rfl
  split <;> rfl
@[simp] theorem openFrame_time (ix : PortIx) (high : Clocks) (low : Clocks) (s : State) : (openFrame ix high low s).time = s.time := by
  unfold openFrame; split; · rfl
  split <;> rfl
@[simp] theorem openFrame_win (ix : PortIx) (high : Clocks) (low : Clocks) (s : State) : (openFrame ix high low s).win = s.win := by
  unfold openFrame; split; · rfl
  split <;> rfl
@[simp] theorem openFrame_resets (ix : PortIx) (high : Clocks) (low : Clocks) (s : State) : (openFrame ix high low s).resets = s.resets := by
  unfold openFrame; split; · rfl
  split <;> rfl
@[simp] theorem openFrame_pending (ix : PortIx) (high : Clocks) (low : Clocks) (s : State) : (openFrame ix high low s).pending = s.pending := by
  unfold openFrame; split; · rfl
  split <;> rfl

/-! ## afterTruncation -/

@[simp] theorem afterTruncation_engine (ix : PortIx) (bitTime : Clocks) (low : Clocks) (s : State) : (afterTruncation ix bitTime low s).engine = s.engine := by
  unfold afterTruncation; split <;> rfl
@[simp] theorem afterTruncation_sched (ix : PortIx) (bitTime : Clocks) (low : Clocks) (s : State) : (afterTruncation ix bitTime low s).sched = s.sched := by
  unfold afterTruncation; split <;> rfl
@[simp] theorem afterTruncation_notices (ix : PortIx) (bitTime : Clocks) (low : Clocks) (s : State) : (afterTruncation ix bitTime low s).notices = s.notices := by
  unfold afterTruncation; split <;> rfl
@[simp] theorem afterTruncation_esc (ix : PortIx) (bitTime : Clocks) (low : Clocks) (s : State) : (afterTruncation ix bitTime low s).esc = s.esc := by
  unfold afterTruncation; split <;> rfl
@[simp] theorem afterTruncation_time (ix : PortIx) (bitTime : Clocks) (low : Clocks) (s : State) : (afterTruncation ix bitTime low s).time = s.time := by
  unfold afterTruncation; split <;> rfl
@[simp] theorem afterTruncation_win (ix : PortIx) (bitTime : Clocks) (low : Clocks) (s : State) : (afterTruncation ix bitTime low s).win = s.win := by
  unfold afterTruncation; split <;> rfl
@[simp] theorem afterTruncation_resets (ix : PortIx) (bitTime : Clocks) (low : Clocks) (s : State) : (afterTruncation ix bitTime low s).resets = s.resets := by
  unfold afterTruncation; split <;> rfl
@[simp] theorem afterTruncation_pending (ix : PortIx) (bitTime : Clocks) (low : Clocks) (s : State) : (afterTruncation ix bitTime low s).pending = s.pending := by
  unfold afterTruncation; split <;> rfl

/-! ## thresholdCheck -/

@[simp] theorem thresholdCheck_ports (slot : CSlot) (r : CRecord) (s : State) : (thresholdCheck slot r s).ports = s.ports := by
  unfold thresholdCheck; split <;> (try split) <;> simp
@[simp] theorem thresholdCheck_notices (slot : CSlot) (r : CRecord) (s : State) : (thresholdCheck slot r s).notices = s.notices := by
  unfold thresholdCheck; split <;> (try split) <;> simp
@[simp] theorem thresholdCheck_esc (slot : CSlot) (r : CRecord) (s : State) : (thresholdCheck slot r s).esc = s.esc := by
  unfold thresholdCheck; split <;> (try split) <;> simp
@[simp] theorem thresholdCheck_time (slot : CSlot) (r : CRecord) (s : State) : (thresholdCheck slot r s).time = s.time := by
  unfold thresholdCheck; split <;> (try split) <;> simp
@[simp] theorem thresholdCheck_win (slot : CSlot) (r : CRecord) (s : State) : (thresholdCheck slot r s).win = s.win := by
  unfold thresholdCheck; split <;> (try split) <;> simp
@[simp] theorem thresholdCheck_resets (slot : CSlot) (r : CRecord) (s : State) : (thresholdCheck slot r s).resets = s.resets := by
  unfold thresholdCheck; split <;> (try split) <;> simp
@[simp] theorem thresholdCheck_pending (slot : CSlot) (r : CRecord) (s : State) : (thresholdCheck slot r s).pending = s.pending := by
  unfold thresholdCheck; split <;> (try split) <;> simp

/-! ## countUnrecorded -/

@[simp] theorem countUnrecorded_ports (ix : RegionIx) (s : State) : (countUnrecorded ix s).ports = s.ports := by
  rfl
@[simp] theorem countUnrecorded_sched (ix : RegionIx) (s : State) : (countUnrecorded ix s).sched = s.sched := by
  rfl
@[simp] theorem countUnrecorded_notices (ix : RegionIx) (s : State) : (countUnrecorded ix s).notices = s.notices := by
  rfl
@[simp] theorem countUnrecorded_esc (ix : RegionIx) (s : State) : (countUnrecorded ix s).esc = s.esc := by
  rfl
@[simp] theorem countUnrecorded_time (ix : RegionIx) (s : State) : (countUnrecorded ix s).time = s.time := by
  rfl
@[simp] theorem countUnrecorded_win (ix : RegionIx) (s : State) : (countUnrecorded ix s).win = s.win := by
  rfl
@[simp] theorem countUnrecorded_resets (ix : RegionIx) (s : State) : (countUnrecorded ix s).resets = s.resets := by
  rfl
@[simp] theorem countUnrecorded_pending (ix : RegionIx) (s : State) : (countUnrecorded ix s).pending = s.pending := by
  rfl

/-! ## countAccepted -/

@[simp] theorem countAccepted_ports (ix : RegionIx) (s : State) : (countAccepted ix s).ports = s.ports := by
  rfl
@[simp] theorem countAccepted_sched (ix : RegionIx) (s : State) : (countAccepted ix s).sched = s.sched := by
  rfl
@[simp] theorem countAccepted_notices (ix : RegionIx) (s : State) : (countAccepted ix s).notices = s.notices := by
  rfl
@[simp] theorem countAccepted_esc (ix : RegionIx) (s : State) : (countAccepted ix s).esc = s.esc := by
  rfl
@[simp] theorem countAccepted_time (ix : RegionIx) (s : State) : (countAccepted ix s).time = s.time := by
  rfl
@[simp] theorem countAccepted_win (ix : RegionIx) (s : State) : (countAccepted ix s).win = s.win := by
  rfl
@[simp] theorem countAccepted_resets (ix : RegionIx) (s : State) : (countAccepted ix s).resets = s.resets := by
  rfl
@[simp] theorem countAccepted_pending (ix : RegionIx) (s : State) : (countAccepted ix s).pending = s.pending := by
  rfl

/-! ## countMuted -/

@[simp] theorem countMuted_ports (ix : RegionIx) (s : State) : (countMuted ix s).ports = s.ports := by
  rfl
@[simp] theorem countMuted_sched (ix : RegionIx) (s : State) : (countMuted ix s).sched = s.sched := by
  rfl
@[simp] theorem countMuted_notices (ix : RegionIx) (s : State) : (countMuted ix s).notices = s.notices := by
  rfl
@[simp] theorem countMuted_esc (ix : RegionIx) (s : State) : (countMuted ix s).esc = s.esc := by
  rfl
@[simp] theorem countMuted_time (ix : RegionIx) (s : State) : (countMuted ix s).time = s.time := by
  rfl
@[simp] theorem countMuted_win (ix : RegionIx) (s : State) : (countMuted ix s).win = s.win := by
  rfl
@[simp] theorem countMuted_resets (ix : RegionIx) (s : State) : (countMuted ix s).resets = s.resets := by
  rfl
@[simp] theorem countMuted_pending (ix : RegionIx) (s : State) : (countMuted ix s).pending = s.pending := by
  rfl

/-! ## countEviction -/

@[simp] theorem countEviction_ports (ix : RegionIx) (s : State) : (countEviction ix s).ports = s.ports := by
  rfl
@[simp] theorem countEviction_sched (ix : RegionIx) (s : State) : (countEviction ix s).sched = s.sched := by
  rfl
@[simp] theorem countEviction_notices (ix : RegionIx) (s : State) : (countEviction ix s).notices = s.notices := by
  rfl
@[simp] theorem countEviction_esc (ix : RegionIx) (s : State) : (countEviction ix s).esc = s.esc := by
  rfl
@[simp] theorem countEviction_time (ix : RegionIx) (s : State) : (countEviction ix s).time = s.time := by
  rfl
@[simp] theorem countEviction_win (ix : RegionIx) (s : State) : (countEviction ix s).win = s.win := by
  rfl
@[simp] theorem countEviction_resets (ix : RegionIx) (s : State) : (countEviction ix s).resets = s.resets := by
  rfl
@[simp] theorem countEviction_pending (ix : RegionIx) (s : State) : (countEviction ix s).pending = s.pending := by
  rfl

/-! ## burstCount -/

@[simp] theorem burstCount_ports (ix : RegionIx) (s : State) : (burstCount ix s).ports = s.ports := by
  unfold burstCount; dsimp only; split; · rfl
  split <;> simp
@[simp] theorem burstCount_sched (ix : RegionIx) (s : State) : (burstCount ix s).sched = s.sched := by
  unfold burstCount; dsimp only; split; · rfl
  split <;> simp
@[simp] theorem burstCount_time (ix : RegionIx) (s : State) : (burstCount ix s).time = s.time := by
  unfold burstCount; dsimp only; split; · rfl
  split <;> simp
@[simp] theorem burstCount_win (ix : RegionIx) (s : State) : (burstCount ix s).win = s.win := by
  unfold burstCount; dsimp only; split; · rfl
  split <;> simp
@[simp] theorem burstCount_resets (ix : RegionIx) (s : State) : (burstCount ix s).resets = s.resets := by
  unfold burstCount; dsimp only; split; · rfl
  split <;> simp
@[simp] theorem burstCount_pending (ix : RegionIx) (s : State) : (burstCount ix s).pending = s.pending := by
  unfold burstCount; dsimp only; split; · rfl
  split <;> simp
@[simp] theorem burstCount_engine_cTable (ix : RegionIx) (s : State) : (burstCount ix s).engine.cTable = s.engine.cTable := by
  unfold burstCount; dsimp only; split; · rfl
  split <;> simp
@[simp] theorem burstCount_engine_sTable (ix : RegionIx) (s : State) : (burstCount ix s).engine.sTable = s.engine.sTable := by
  unfold burstCount; dsimp only; split; · rfl
  split <;> simp
@[simp] theorem burstCount_engine_memories (ix : RegionIx) (s : State) : (burstCount ix s).engine.memories = s.engine.memories := by
  unfold burstCount; dsimp only; split; · rfl
  split <;> simp
@[simp] theorem burstCount_engine_ranges (ix : RegionIx) (s : State) : (burstCount ix s).engine.ranges = s.engine.ranges := by
  unfold burstCount; dsimp only; split; · rfl
  split <;> simp
@[simp] theorem burstCount_engine_mode (ix : RegionIx) (s : State) : (burstCount ix s).engine.mode = s.engine.mode := by
  unfold burstCount; dsimp only; split; · rfl
  split <;> simp
@[simp] theorem burstCount_engine_pinnedCount (ix : RegionIx) (s : State) : (burstCount ix s).engine.pinnedCount = s.engine.pinnedCount := by
  unfold burstCount; dsimp only; split; · rfl
  split <;> simp
@[simp] theorem burstCount_engine_cFullArmed (ix : RegionIx) (s : State) : (burstCount ix s).engine.cFullArmed = s.engine.cFullArmed := by
  unfold burstCount; dsimp only; split; · rfl
  split <;> simp
@[simp] theorem burstCount_engine_lastServed (ix : RegionIx) (s : State) : (burstCount ix s).engine.lastServed = s.engine.lastServed := by
  unfold burstCount; dsimp only; split; · rfl
  split <;> simp

/-! ## popReport -/

@[simp] theorem popReport_sched (ix : PortIx) (s : State) : (popReport ix s).sched = s.sched := by
  rfl
@[simp] theorem popReport_notices (ix : PortIx) (s : State) : (popReport ix s).notices = s.notices := by
  rfl
@[simp] theorem popReport_esc (ix : PortIx) (s : State) : (popReport ix s).esc = s.esc := by
  rfl
@[simp] theorem popReport_time (ix : PortIx) (s : State) : (popReport ix s).time = s.time := by
  rfl
@[simp] theorem popReport_win (ix : PortIx) (s : State) : (popReport ix s).win = s.win := by
  rfl
@[simp] theorem popReport_resets (ix : PortIx) (s : State) : (popReport ix s).resets = s.resets := by
  rfl
@[simp] theorem popReport_pending (ix : PortIx) (s : State) : (popReport ix s).pending = s.pending := by
  rfl

/-! ## popHandover -/

@[simp] theorem popHandover_engine (ix : PortIx) (s : State) : (popHandover ix s).engine = s.engine := by
  rfl
@[simp] theorem popHandover_ports (ix : PortIx) (s : State) : (popHandover ix s).ports = s.ports := by
  rfl
@[simp] theorem popHandover_notices (ix : PortIx) (s : State) : (popHandover ix s).notices = s.notices := by
  rfl
@[simp] theorem popHandover_esc (ix : PortIx) (s : State) : (popHandover ix s).esc = s.esc := by
  rfl
@[simp] theorem popHandover_time (ix : PortIx) (s : State) : (popHandover ix s).time = s.time := by
  rfl
@[simp] theorem popHandover_win (ix : PortIx) (s : State) : (popHandover ix s).win = s.win := by
  rfl
@[simp] theorem popHandover_resets (ix : PortIx) (s : State) : (popHandover ix s).resets = s.resets := by
  rfl
@[simp] theorem popHandover_pending (ix : PortIx) (s : State) : (popHandover ix s).pending = s.pending := by
  rfl
@[simp] theorem popHandover_sched_jobs (ix : PortIx) (s : State) : (popHandover ix s).sched.jobs = s.sched.jobs := by
  rfl
@[simp] theorem popHandover_sched_answered (ix : PortIx) (s : State) : (popHandover ix s).sched.answered = s.sched.answered := by
  rfl
@[simp] theorem popHandover_sched_tagCounters (ix : PortIx) (s : State) : (popHandover ix s).sched.tagCounters = s.sched.tagCounters := by
  rfl
@[simp] theorem popHandover_sched_nextJob (ix : PortIx) (s : State) : (popHandover ix s).sched.nextJob = s.sched.nextJob := by
  rfl

/-! ## tickOnce -/

@[simp] theorem tickOnce_engine (s : State) : (tickOnce s).engine = s.engine := by
  unfold tickOnce; split <;> simp
@[simp] theorem tickOnce_ports (s : State) : (tickOnce s).ports = s.ports := by
  unfold tickOnce; split <;> simp
@[simp] theorem tickOnce_sched (s : State) : (tickOnce s).sched = s.sched := by
  unfold tickOnce; split <;> simp
@[simp] theorem tickOnce_notices (s : State) : (tickOnce s).notices = s.notices := by
  unfold tickOnce; split <;> simp
@[simp] theorem tickOnce_esc (s : State) : (tickOnce s).esc = s.esc := by
  unfold tickOnce; split <;> simp
@[simp] theorem tickOnce_win (s : State) : (tickOnce s).win = s.win := by
  unfold tickOnce; split <;> simp
@[simp] theorem tickOnce_resets (s : State) : (tickOnce s).resets = s.resets := by
  unfold tickOnce; split <;> simp
@[simp] theorem tickOnce_pending (s : State) : (tickOnce s).pending = s.pending := by
  unfold tickOnce; split <;> simp

/-! ## clockPeriod -/

@[simp] theorem clockPeriod_engine (s : State) : (clockPeriod s).engine = s.engine := by
  unfold clockPeriod; split; · rfl
  split <;> simp
@[simp] theorem clockPeriod_ports (s : State) : (clockPeriod s).ports = s.ports := by
  unfold clockPeriod; split; · rfl
  split <;> simp
@[simp] theorem clockPeriod_sched (s : State) : (clockPeriod s).sched = s.sched := by
  unfold clockPeriod; split; · rfl
  split <;> simp
@[simp] theorem clockPeriod_notices (s : State) : (clockPeriod s).notices = s.notices := by
  unfold clockPeriod; split; · rfl
  split <;> simp
@[simp] theorem clockPeriod_esc (s : State) : (clockPeriod s).esc = s.esc := by
  unfold clockPeriod; split; · rfl
  split <;> simp
@[simp] theorem clockPeriod_win (s : State) : (clockPeriod s).win = s.win := by
  unfold clockPeriod; split; · rfl
  split <;> simp
@[simp] theorem clockPeriod_resets (s : State) : (clockPeriod s).resets = s.resets := by
  unfold clockPeriod; split; · rfl
  split <;> simp
@[simp] theorem clockPeriod_pending (s : State) : (clockPeriod s).pending = s.pending := by
  unfold clockPeriod; split; · rfl
  split <;> simp

end Sys2Proof.Machine
end

