-- ==== Sys2Proof/Laws/Ops.lean ====
section
/-! SUPPORT. What the shared operations do: conditions as propositions, waiting commands, ports, numbers, and the steps of taking a report. -/

namespace Sys2Proof.Machine

/-! ## Conditions -/

theorem queueRoom_iff (s : State) : s.queueRoom = true ↔ s.sched.jobs.length < 8 := by
  unfold State.queueRoom; rw [decide_eq_true_eq]; rfl

theorem noticeRoom_iff (s : State) : s.noticeRoom = true ↔ s.notices.entries.length < 16 := by
  unfold State.noticeRoom; rw [decide_eq_true_eq]; rfl

theorem reached_iff (stamp deadline : Stamp) :
    reached stamp deadline = true ↔ (stamp - deadline).toNat < 2 ^ 31 := by
  unfold reached; rw [decide_eq_true_eq]; norm_num

theorem reachedOpt_some (stamp d : Stamp) : reachedOpt stamp (some d) = reached stamp d := rfl

theorem isDelimiter_iff (low : Clocks) : isDelimiter low = true ↔ 64 ≤ low ∧ low ≤ 65536 := by
  unfold isDelimiter; rw [Bool.and_eq_true, decide_eq_true_eq, decide_eq_true_eq]; rfl

theorem wantsJob_iff (p : RegionPolicy) (r : CRecord) :
    wantsJob p r = true ↔ p.threshold.toNat ≤ r.hitsSinceVerdict.toNat ∧ p.verifyEnable = true := by
  unfold wantsJob; rw [Bool.and_eq_true, decide_eq_true_eq]

theorem softLimitReached_iff (limit soft : BitVec 4) :
    softLimitReached limit soft = true ↔ limit ≠ 0 ∧ limit ≤ soft := by
  unfold softLimitReached; simp

theorem held_iff (s : State) : s.held = true ↔ s.resets.porst = true ∨ s.resets.wrst = true := by
  unfold State.held; simp

theorem whenRunning_running {s : State} (f : State → State) (h : s.held = false) : whenRunning f s = f s := by
  simp [whenRunning, h]

theorem whenRunning_held {s : State} (f : State → State) (h : s.held = true) : whenRunning f s = s := by
  simp [whenRunning, h]

/-! ## Waiting commands -/

/-- A command that waits with its owner is carried out by it (R165, R167). -/
theorem takeByOwner_waiting {c : Command} {o : Owner} {body : State → State} {s : State} (h : Waiting c o s) :
    takeByOwner c o body s = body s := by
  simp [takeByOwner, whenRunning, h.1, State.isPending, h.2]

/-- A port command that waits with a port is carried out by it (R96). -/
theorem takeByPort_waiting {c : Command} {ix : PortIx} {body : PortIx → State → State} {s : State}
    (h : Waiting c (.port ix) s) : takeByPort c body s = body ix s := by
  simp [takeByPort, whenRunning, h.1, h.2]

/-- A command that is not pending with its owner is not carried out. -/
theorem takeByOwner_other {c : Command} {o : Owner} {body : State → State} {s : State}
    (h : s.win.command ≠ some ⟨c, o⟩) : takeByOwner c o body s = s := by
  unfold takeByOwner whenRunning State.isPending; simp [h]

/-! ## Packing -/

/-- A field placed in a word, bit by bit. -/
theorem fieldAt_getLsbD {w : Nat} (x : BitVec w) (pos i : Nat) :
    (fieldAt x pos).getLsbD i = (decide (i < 16) && !decide (i < pos) && x.getLsbD (i - pos)) := by
  simp only [fieldAt, BitVec.getLsbD_shiftLeft, BitVec.getLsbD_setWidth]
  by_cases h : i < 16 <;> by_cases h2 : i < pos <;> simp [h, h2]; omega

/-- Two words with the same sixteen bits are the same word. -/
theorem word_ext {x y : Word} (h : ∀ i : Fin 16, x.getLsbD i = y.getLsbD i) : x = y :=
  BitVec.eq_of_getLsbD_eq fun i hi => h ⟨i, hi⟩

/-! ## Numbers -/

theorem satInc_toNat {w : Nat} (x : BitVec w) : (satInc x).toNat = min (x.toNat + 1) (2 ^ w - 1) := by
  unfold satInc
  have hx := x.isLt
  split
  · rename_i e; subst e; simp [BitVec.toNat_allOnes] at *
  · rename_i e
    have : x.toNat ≠ 2 ^ w - 1 := fun h => e (BitVec.eq_of_toNat_eq (by simpa [BitVec.toNat_allOnes] using h))
    have h1 : x.toNat + 1 < 2 ^ w := by omega
    have hw : 1 < 2 ^ w := by omega
    have one : (1 : BitVec w).toNat = 1 := by
      rw [show (1 : BitVec w) = BitVec.ofNat w 1 from rfl, BitVec.toNat_ofNat, Nat.mod_eq_of_lt hw]
    rw [BitVec.toNat_add, one, Nat.mod_eq_of_lt h1]; omega

theorem satAdd_byte (x : Byte) (n : Nat) : satAdd x n = BitVec.ofNat 8 (min 255 (x.toNat + n)) := by
  unfold satAdd
  split
  · congr 1; omega
  · rw [Nat.min_eq_left (by omega)]; rfl

theorem wordBelow_some {n : Nat} {w : Word} {i : Fin n} (h : w.toNat = i.val) : wordBelow n w = some i := by
  unfold wordBelow; rw [dif_pos (by omega)]; congr 1; exact Fin.ext h

theorem wordBelow_none {n : Nat} {w : Word} (h : n ≤ w.toNat) : wordBelow n w = none := by
  unfold wordBelow; rw [dif_neg (by omega)]

theorem byteBelow_some {n : Nat} {b : Byte} {i : Fin n} (h : b.toNat = i.val) : byteBelow n b = some i := by
  unfold byteBelow; rw [dif_pos (by omega)]; congr 1; exact Fin.ext h

theorem byteBelow_none {n : Nat} {b : Byte} (h : n ≤ b.toNat) : byteBelow n b = none := by
  unfold byteBelow; rw [dif_neg (by omega)]

/-- Two registers joined are one number, the low word in the lower-numbered one (R179). -/
theorem joinWords_toNat (low high : Word) : (joinWords low high).toNat = low.toNat + 65536 * high.toNat := by
  unfold joinWords; rw [BitVec.toNat_append]
  have := low.isLt
  rw [← Nat.shiftLeft_add_eq_or_of_lt (by omega)]; simp [Nat.shiftLeft_eq]; omega

/-- The granule number of an address is the quotient by the granule size (R1). -/
theorem granuleOf_toNat (e : MemoryEntry) (a : BitVec 32) :
    (granuleOf e a).toNat = a.toNat / e.granuleSize.bytes := by
  unfold granuleOf; rw [BitVec.toNat_ofNat, Nat.mod_eq_of_lt]
  have h8 : 8 ≤ e.granuleSize.bytes := by cases e.granuleSize <;> decide
  have := a.isLt
  calc a.toNat / e.granuleSize.bytes ≤ a.toNat / 8 := Nat.div_le_div_left h8 (by omega)
    _ < 2 ^ 29 := by omega

theorem inMemory_iff (e : MemoryEntry) (a : BitVec 32) :
    inMemory e a = true ↔ a.toNat / e.granuleSize.bytes < e.size := by
  unfold inMemory; rw [decide_eq_true_eq, granuleOf_toNat]

theorem granuleSizeOf_some {w : Word} {g : GranuleSize} (h : w.toNat = g.bytes) :
    granuleSizeOf w = some g := by
  have : w = BitVec.ofNat 16 g.bytes := by apply BitVec.eq_of_toNat_eq; simp [h]; cases g <;> decide
  subst this; cases g <;> rfl

/-! ## Ports -/

theorem setPort_eq_withPort (s : State) (ix : PortIx) (p : Port) : s.setPort ix p = s.withPort ix p := rfl

theorem withPort_withPort (s : State) (ix : PortIx) (p q : Port) :
    (s.withPort ix p).withPort ix q = s.withPort ix q := by
  simp [State.withPort]

theorem withPort_get (s : State) (ix : PortIx) (p : Port) : (s.withPort ix p).ports[ix] = p := by
  simp [State.withPort]

@[simp] theorem produce_outstanding (p : Port) (f : OutFrame) : (p.produce f).outstanding = p.outstanding := by
  unfold Port.produce; cases p.sending <;> rfl

@[simp] theorem produce_mode (p : Port) (f : OutFrame) : (p.produce f).mode = p.mode := by
  unfold Port.produce; cases p.sending <;> rfl

@[simp] theorem produce_queue (p : Port) (f : OutFrame) : (p.produce f).queue = p.queue := by
  unfold Port.produce; cases p.sending <;> rfl

theorem produce_clear_outstanding (p : Port) (f : OutFrame) :
    { p.produce f with outstanding := none } = ({ p with outstanding := none } : Port).produce f := by
  unfold Port.produce; cases p.sending <;> rfl

/-- A frame produced while none is being sent begins at once (R83, R176). -/
theorem produce_idle {p : Port} (f : OutFrame) (h : p.sending = none) :
    p.produce f = { p with sending := some { frame := f, bitTime := p.bitTime } } := by
  unfold Port.produce; rw [h]

/-- A frame produced while another is being sent waits behind those produced before it (R83). -/
theorem produce_busy {p : Port} {g : Sending} (f : OutFrame) (h : p.sending = some g) :
    p.produce f = { p with waiting := p.waiting ++ [f] } := by
  unfold Port.produce; rw [h]

/-- A port ignores a low period exactly where the high period before it was shorter than the bit time it waits for
(R176). -/
theorem ignores_iff (p : Port) (high : Clocks) :
    p.ignores high = true ↔ ∃ b, p.ignoring = some b ∧ high < b := by
  unfold Port.ignores; cases p.ignoring <;> simp

theorem ignores_eq_false {p : Port} {high : Clocks} (h : ∀ b, p.ignoring = some b → b ≤ high) :
    p.ignores high = false := by
  rw [Bool.eq_false_iff, Ne, ignores_iff]
  rintro ⟨b, e, l⟩
  exact Nat.not_lt.mpr (h b e) l

/-- A good frame that completes on a receiving port is taken in its state, the reception ended (R80). -/
theorem completeGood_receiving {ix : PortIx} {m : PortMode} {f : InFrame} {s : State} (h : Receiving ix m s) :
    whenRunning (completeGood ix f) s = takeGood ix f (s.withPort ix { s.ports[ix] with rx := none }) := by
  have e : s.ports[ix].rx.isSome = true := by
    cases e : s.ports[ix].rx
    · exact absurd e h.2.1
    · rfl
  rw [whenRunning_running _ h.1, completeGood, e]; rfl

/-! ## Jobs -/

/-- The search for the job of a C slot finds the one job of that slot. -/
theorem jobFor_at {before after : List Job} {j : Job} {s : State} (h : JobAt before j after s) :
    jobFor j.slot s.sched.jobs = some j := by
  rw [h.1]; unfold jobFor
  rw [List.find?_append, List.find?_eq_none.mpr (fun k hk => by simpa using h.2 k (by simp [hk]))]
  simp

theorem withoutJob_at {before after : List Job} {j : Job} {s : State} (h : JobAt before j after s) :
    withoutJob j.slot s.sched.jobs = before ++ after := by
  rw [h.1]; unfold withoutJob
  have hf : ∀ l : List Job, (∀ k ∈ l, k.slot ≠ j.slot) → l.filter (fun k => k.slot != j.slot) = l := by
    intro l hl; rw [List.filter_eq_self]; intro k hk; simpa using hl k hk
  rw [List.filter_append, hf before (fun k hk => h.2 k (by simp [hk]))]
  simp [hf after (fun k hk => h.2 k (by simp [hk]))]

theorem replaceJob_at {before after : List Job} {j k : Job} {s : State} (h : JobAt before j after s)
    (e : k.slot = j.slot) : replaceJob k s.sched.jobs = before ++ k :: after := by
  rw [h.1]; unfold replaceJob
  have hf : ∀ l : List Job, (∀ x ∈ l, x.slot ≠ j.slot) →
      l.map (fun x => if x.slot = k.slot then k else x) = l := by
    intro l hl; conv_rhs => rw [← List.map_id l]
    apply List.map_congr_left; intro x hx; simp [e, hl x hx]
  rw [List.map_append, List.map_cons, hf before (fun x hx => h.2 x (by simp [hx])),
    hf after (fun x hx => h.2 x (by simp [hx])), if_pos e.symm]

/-- A job whose state alone is changed keeps its place (R105). -/
theorem replaceJob_mode {before after : List Job} {j : Job} {s : State} (h : JobAt before j after s)
    (m : JobMode) : replaceJob { j with mode := m } s.sched.jobs = before ++ { j with mode := m } :: after :=
  replaceJob_at h rfl

theorem urgent_iff (j : Job) : j.urgent = true ↔ j.cls = .urgent := by
  unfold Job.urgent; simp

/-- Between the classes of a queue in class order. -/
theorem betweenClasses_split {urgents normals : List Job} (j : Job) (hu : ∀ k ∈ urgents, k.cls = .urgent)
    (hn : ∀ k ∈ normals, k.cls = .normal) :
    betweenClasses j (urgents ++ normals) = urgents ++ j :: normals := by
  unfold betweenClasses
  have h1 : (urgents ++ normals).takeWhile Job.urgent = urgents := by
    rw [List.takeWhile_append_of_pos (fun k hk => (urgent_iff k).mpr (hu k hk))]
    cases normals with
    | nil => simp
    | cons k l => simp [Job.urgent, hn k (by simp)]
  have h2 : (urgents ++ normals).dropWhile Job.urgent = normals := by
    rw [List.dropWhile_append_of_pos (fun k hk => (urgent_iff k).mpr (hu k hk))]
    cases normals with
    | nil => simp
    | cons k l => simp [Job.urgent, hn k (by simp)]
  rw [h1, h2]

/-- A job entered at the tail of its class in a queue in class order (R105). -/
theorem insertTail_split {urgents normals : List Job} (j : Job) (hu : ∀ k ∈ urgents, k.cls = .urgent)
    (hn : ∀ k ∈ normals, k.cls = .normal) :
    insertTail j (urgents ++ normals) =
      if j.cls = .urgent then urgents ++ j :: normals else urgents ++ normals ++ [j] := by
  unfold insertTail; cases e : j.cls <;> simp [betweenClasses_split j hu hn]

/-- A job placed at the head of its class in a queue in class order (R105). -/
theorem insertHead_split {urgents normals : List Job} (j : Job) (hu : ∀ k ∈ urgents, k.cls = .urgent)
    (hn : ∀ k ∈ normals, k.cls = .normal) :
    insertHead j (urgents ++ normals) =
      if j.cls = .urgent then j :: (urgents ++ normals) else urgents ++ j :: normals := by
  unfold insertHead; cases e : j.cls <;> simp [betweenClasses_split j hu hn]

theorem inFlightOn_iff (ix : PortIx) (tag : Tag) (j : Job) :
    j.inFlightOn ix tag = true ↔ ∃ d c, j.mode = .inFlight ix tag d c := by
  unfold Job.inFlightOn; split
  · rename_i p t d c e; simp [e]
  · rename_i h; simp only [Bool.false_eq_true, false_iff]
    rintro ⟨d, c, e⟩; exact h _ _ _ _ e

theorem flyingOn_iff (ix : PortIx) (j : Job) :
    j.flyingOn ix = true ↔ ∃ tag d c, j.mode = .inFlight ix tag d c := by
  unfold Job.flyingOn; split
  · rename_i p t d c e; simp [e]
  · rename_i h; simp only [Bool.false_eq_true, false_iff]
    rintro ⟨t, d, c, e⟩; exact h _ _ _ _ e

theorem uncancelledOn_iff (ix : PortIx) (j : Job) :
    j.uncancelledOn ix = true ↔ ∃ tag d, j.mode = .inFlight ix tag d none := by
  unfold Job.uncancelledOn; split
  · rename_i p t d e; simp [e]
  · rename_i h; simp only [Bool.false_eq_true, false_iff]
    rintro ⟨t, d, e⟩; exact h _ _ _ e

theorem offeredTo_iff (ix : PortIx) (j : Job) :
    j.offeredTo ix = true ↔ ∃ tag, j.mode = .queued (some (ix, tag)) := by
  unfold Job.offeredTo; split
  · rename_i p t e; simp [e]
  · rename_i h; simp only [Bool.false_eq_true, false_iff]
    rintro ⟨t, e⟩; exact h _ _ e

theorem offeredAs_iff (id : Nat) (ix : PortIx) (tag : Tag) (j : Job) :
    j.offeredAs id ix tag = true ↔ j.id = id ∧ j.mode = .queued (some (ix, tag)) := by
  unfold Job.offeredAs; simp

theorem waiting_iff (j : Job) : j.waiting = true ↔ j.mode = .queued none := by
  unfold Job.waiting; simp

theorem find_first {p : Job → Bool} {before after : List Job} {j : Job} {s : State}
    (h : JobAt before j after s) (hj : p j = true) (hb : ∀ k ∈ before, p k = false) :
    s.sched.jobs.find? p = some j := by
  rw [h.1, List.find?_append, List.find?_eq_none.mpr (fun k hk => by simp [hb k hk])]
  simp [hj]

theorem mem_cancelTags (ix : PortIx) (s : State) (t : Tag) :
    (cancelTags ix s).contains t = true ↔ Handover.cancel t ∈ s.sched.handovers[ix] := by
  unfold cancelTags
  simp only [List.contains_iff_mem, List.mem_filterMap]
  constructor
  · rintro ⟨h, hm, e⟩; cases h <;> simp at e; subst e; exact hm
  · intro h; exact ⟨_, h, rfl⟩

theorem dispatchUntaken_iff (ix : PortIx) (s : State) :
    dispatchUntaken ix s = true ↔ ∃ id tag m a, Handover.dispatch id tag m a ∈ s.sched.handovers[ix] := by
  unfold dispatchUntaken
  rw [List.any_eq_true]
  constructor
  · rintro ⟨h, hm, e⟩
    cases h with
    | dispatch id tag m a => exact ⟨id, tag, m, a, hm⟩
    | cancel t => cases e
  · rintro ⟨id, tag, m, a, hm⟩
    exact ⟨_, hm, rfl⟩

/-- What the dispatch decision chooses: in RUN, for a free port with no dispatch to take, a QUEUED job with no offer whose
memory the port owns (R107, R108). -/
theorem dispatchJob_some {ix : PortIx} {s : State} {j : Job} (h : dispatchJob ix s = some j) :
    s.engine.mode = .run ∧ portFree ix s = true ∧ dispatchUntaken ix s = false ∧ j ∈ s.sched.jobs ∧
      j.mode = .queued none ∧ s.engine.memories[j.key.mem].owner = some ix := by
  unfold dispatchJob at h
  split at h
  · rename_i c
    have p := List.find?_some h
    simp only [Bool.and_eq_true, beq_iff_eq, Bool.not_eq_true'] at c p
    exact ⟨c.1.1, c.1.2, c.2, List.mem_of_find?_eq_some h, (waiting_iff j).mp p.1, by simpa [ownsJob] using p.2⟩
  · cases h

/-! ## Bits on a lane -/

theorem byteOfBits_bits (b : Byte) :
    byteOfBits (b.getLsbD 7) (b.getLsbD 6) (b.getLsbD 5) (b.getLsbD 4) (b.getLsbD 3) (b.getLsbD 2) (b.getLsbD 1)
      (b.getLsbD 0) = b := by
  revert b; decide +kernel

/-- The bits of a byte are read back as that byte, whatever follows (R176). -/
theorem bytesOnLane_byteBits (b : Byte) (rest : List Bool) :
    bytesOnLane (byteBits b ++ rest) = b :: bytesOnLane rest := by
  show byteOfBits _ _ _ _ _ _ _ _ :: bytesOnLane rest = _
  rw [byteOfBits_bits]

/-- While the line is high no byte begins (R176). -/
theorem bytesOnLane_high (n : Nat) (rest : List Bool) :
    bytesOnLane (List.replicate n true ++ rest) = bytesOnLane rest := by
  induction n with
  | zero => rfl
  | succ n ih => simpa [List.replicate_succ, bytesOnLane] using ih

/-- The bits of bytes sent one after another are read back as those bytes (R176). -/
theorem bytesOnLane_flatMap (bytes : List Byte) (rest : List Bool) :
    bytesOnLane (bytes.flatMap byteBits ++ rest) = bytes ++ bytesOnLane rest := by
  induction bytes with
  | nil => rfl
  | cons b bytes ih => simp [List.flatMap_cons, List.append_assoc, bytesOnLane_byteBits, ih]

/-! ## Region lookup -/

theorem covers_iff (r : RegionRange) (k : Key) :
    covers r k = true ↔ r.enabled = true ∧ r.mem = k.mem ∧ r.base ≤ k.granule ∧ k.granule ≤ r.limit := by
  unfold covers; simp [and_assoc]

/-- Region lookup answers the lowest-numbered entry that covers the key (R40). -/
theorem lookupRegion_lowest {s : State} {k : Key} {i : Fin 12} (h : covers s.engine.ranges[i] k = true)
    (low : ∀ j, j < i → covers s.engine.ranges[j] k = false) : s.lookupRegion k = i.castSucc := by
  unfold State.lookupRegion; rw [find_finRange _ i h low]

/-- Region lookup answers D where no entry covers the key (R40). -/
theorem lookupRegion_default {s : State} {k : Key} (h : ∀ j : Fin 12, covers s.engine.ranges[j] k = false) :
    s.lookupRegion k = 12 := by
  unfold State.lookupRegion; rw [find_finRange_none _ h]; rfl

/-! ## Taking a report -/

theorem execTakeReport_due {ix : PortIx} {rep : Report} {s : State} (h : ReportDue ix rep s) :
    exec .takeReport s = .next (judgeReport ix rep (popReport ix s)) := by
  simp only [exec, execTakeReport, whenRunning_running _ h.1, takeReport, reportsOpen_of_due h,
    nextReport_of_due h]; rfl

theorem keyOf_admitted {ix : PortIx} {rep : Report} {k : Key} {region : RegionIx} {s : State}
    (h : Admitted ix rep k region s) : s.keyOf rep.mem rep.addr = k := by
  obtain ⟨-, h2, h3, -, -⟩ := h
  unfold State.keyOf
  cases k; simp only [Key.mk.injEq]
  refine ⟨h2.symm, ?_⟩
  apply BitVec.eq_of_toNat_eq; rw [granuleOf_toNat]; exact h3.symm

theorem ownershipOk_admitted {ix : PortIx} {rep : Report} {k : Key} {region : RegionIx} {s : State}
    (h : Admitted ix rep k region s) : ownershipOk ix rep s = true := by
  obtain ⟨h1, h2, h3, h4, -⟩ := h
  unfold ownershipOk
  rw [Bool.and_eq_true, inMemory_iff]
  exact ⟨by rw [h1]; simp, by rw [← h3]; exact h4⟩

/-- A report that is due and admitted reaches steps 4 to 7 (R66). -/
theorem judgeReport_admitted {ix : PortIx} {rep : Report} {k : Key} {region : RegionIx} {s : State}
    (h : Admitted ix rep k region s) :
    judgeReport ix rep (popReport ix s) = applyReport k region rep (popReport ix s) := by
  have a : ownershipOk ix rep (popReport ix s) = true := ownershipOk_admitted h
  have b : (popReport ix s).keyOf rep.mem rep.addr = k := keyOf_admitted h
  have c : (popReport ix s).lookupRegion k = region := h.2.2.2.2.symm
  simp only [judgeReport, a, b, c, if_true]

/-- A severe report that is due and admitted has its table effect (R66). -/
theorem execTakeReport_severe {ix : PortIx} {rep : Report} {k : Key} {region : RegionIx} {s : State}
    (h : ReportDue ix rep s) (ha : Admitted ix rep k region s) (hs : rep.kind.severe = true) :
    exec .takeReport s = .next (applySevere k region rep (acceptedReport ix region s)) := by
  rw [execTakeReport_due h, judgeReport_admitted ha]; simp [applyReport, hs, acceptedReport]

/-- A correctable report that is due, admitted and not muted is burst-counted and has its table effect (R66). -/
theorem execTakeReport_correctable {ix : PortIx} {rep : Report} {k : Key} {region : RegionIx} {s : State}
    (h : ReportDue ix rep s) (ha : Admitted ix rep k region s) (hs : rep.kind.severe = false)
    (hm : s.engine.regions[region].counts.muted = false) :
    exec .takeReport s =
      .next (applyCorrectable k region rep (burstCount region (acceptedReport ix region s))) := by
  rw [execTakeReport_due h, judgeReport_admitted ha]
  have : (popReport ix s).engine.regions[region].counts.muted = false := hm
  simp only [applyReport, hs, acceptedReport, this]; rfl

end Sys2Proof.Machine
end

