-- ==== Sys2Proof/Tests/Slice0.lean ====
section
/-! SUPPORT. The model's own tests: ill-formed commands, the guide's worked values, and, for every statement with hypotheses, a state and operands that meet them. -/

namespace Sys2Proof.Tests

open Sys2Proof Sys2Proof.Machine

-- One theorem after another: proofs by the kernel wait for all before them, and a thread each would take too much memory.
set_option Elab.async false

/-! ## WellFormed: a term that each check refuses -/

theorem test_wf_accepted_code : Instr.wf (.commandAccepted 0x19) = false := by decide
theorem test_wf_unknown_code : Instr.wf (.unknownCommand 0x18) = false := by decide
theorem test_wf_mark_seen : Instr.wf (.markSeen 0x0003) = false := by decide
theorem test_wf_write_control : Instr.wf (.registerWrite 0x03 0) = false := by decide
theorem test_wf_write_command : Instr.wf (.registerWrite 0x04 1) = false := by decide
theorem test_wf_delimiter_short : Instr.wf (.startDelimiter 0 ⟨9, 63⟩) = false := by decide
theorem test_wf_delimiter_long : Instr.wf (.startDelimiter 0 ⟨9, 65537⟩) = false := by decide
theorem test_wf_long_low : Instr.wf (.longLowPeriod 0 ⟨9, 64⟩) = false := by decide
theorem test_wf_bad_frame : Instr.wf (.badFrame 0 ((InFrame.verdict 1 2).bytes.flatMap byteBits)) = false := by
  decide +kernel
theorem test_wf_good_commands :
    (Instr.wf (.commandAccepted 0x18) && Instr.wf (.unknownCommand 0) && Instr.wf (.markSeen 4) &&
      Instr.wf (.registerWrite 0x05 1) && Instr.wf (.startDelimiter 0 ⟨0, 65536⟩) &&
      Instr.wf (.longLowPeriod 0 ⟨0, 63⟩) && Instr.wf (.badFrame 0 (byteBits 0x00))) = true := by decide +kernel

/-! ## Worked values of the guide -/

/-- The check code of the nine characters 1 to 9 is 29B1h (section 11.2). -/
theorem test_check_code :
    checkCode [0x31, 0x32, 0x33, 0x34, 0x35, 0x36, 0x37, 0x38, 0x39] = 0x29B1 := by decide +kernel

/-- A byte on a lane: start bit low, the most significant bit first, stop bit high; a byte of 00h is low for 9 bit times
(R176). -/
theorem test_bits_of_a_byte :
    byteBits 0xA1 = [false, true, false, true, false, false, false, false, true, true] ∧
      byteBits 0x00 = List.replicate 9 false ++ [true] := by decide

/-- An ACK of number 5 on the lane: 16 bit times low, one high, 40 bit times of its four bytes (R176, Table 11-1). -/
theorem test_frame_on_the_lane :
    (frameBits 0 (OutFrame.bytes (.ack 5))).length = 57 ∧
      (frameBits 0 (OutFrame.bytes (.ack 5))).take 27 =
        List.replicate 16 false ++ [true] ++ byteBits 0x82 ∧
      bytesOnLane ((frameBits 2 (OutFrame.bytes (.ack 5))).drop 16) = OutFrame.bytes (.ack 5) := by decide +kernel

/-- The ID register shows part 24h, revision 01h (Table 11-3). -/
theorem test_id_register : readRegister 0x00 State.reset = 0x2401 := by decide

/-- After reset the command state is IDLE, the engine in CONFIG and the escalation state CLEAR (Table 11-4). -/
theorem test_status_after_reset : readRegister 0x01 State.reset = 0 := by decide

/-- No word spells a command. -/
theorem test_no_word : decodeTableWord 16 0x0001 = none := by decide

/-! ## States for the witnesses -/

/-- A state in which a command waits with its owner, with parameters. -/
def waiting (c : Command) (o : Owner) (p : Vector Word 6) (s : State) : State :=
  { s with win := { s.win with cmdState := .busy, command := some ⟨c, o⟩, params := p } }

/-- A state in RUN. -/
def running (s : State) : State := { s with engine := { s.engine with mode := .run } }

/-- Memory 2 owned by port 1, 16 granules of 64 bytes. -/
def owning (s : State) : State :=
  { s with
    engine := { s.engine with
      memories := s.engine.memories.set 2 { owner := some 1, granuleSize := .g64, size := 16, codeAgrees := true } } }

/-- The key of granule g of memory 2. -/
def keyAt (g : Granule) : Key := { mem := 2, granule := g }

def coreAt (g : Granule) : RecordCore :=
  { key := keyAt g, region := 12, hits := 3, kinds := 1, firstStamp := 0, lastStamp := 0, firstMaster := none
    lastMaster := none, syndrome := none, version := 255, codeAgrees := true }

def cAt (g : Granule) (m : CMode) : CRecord :=
  { core := coreAt g, mode := m, pinned := false, hitsSinceVerdict := 2, softVerdicts := 15, lastVerdict := .none
    hardReason := none }

def sAt (g : Granule) (m : SMode) : SRecord :=
  { core := { coreAt g with kinds := 8 }, mode := m, origin := .created }

/-- A job named by the number of its slot. -/
def jobAt (slot : CSlot) (g : Granule) (cls : JobClass) (m : JobMode) : Job :=
  { id := slot.val, slot := slot, key := keyAt g, cls := cls, attempts := 1, mode := m }

/-- Port 1 in a mode, with a tag outstanding, a frame under reception and hand-overs waiting. -/
def port1 (m : PortMode) (tag : Option Tag) (rx : Option Reception) (hs : List Handover) (s : State) : State :=
  { s.withPort 1 { s.ports[(1 : PortIx)] with mode := m, outstanding := tag, rx := rx } with
    sched := { s.sched with handovers := s.sched.handovers.set 1 hs } }

/-- A report of granule g of memory 2. -/
def reportOf (kind : Kind) (g : Nat) : Report :=
  { seq := 7, kind := kind, mem := 2, addr := BitVec.ofNat 32 (64 * g), master := none, syndrome := none }

/-- A state in RUN whose port 1 holds one report. -/
def reporting (kind : Kind) (g : Nat) (s : State) : State :=
  running (owning (s.withPort 1 { s.ports[(1 : PortIx)] with queue := [reportOf kind g] }))

/-- A state with the jobs given, the ANSWERED ones named in their order. -/
def working (jobs : List Job) (s : State) : State :=
  { s with sched := { s.sched with
      nextJob := 32, jobs := jobs, answered := (jobs.filter Job.isAnswered).map Job.slot } }

theorem due_of (kind : Kind) (g : Nat) (s : State) (h : s.held = false) (ha : s.sched.answered = [])
    (hc : s.win.command = none) (hl : s.engine.lastServed = 5) (hq : s.ports[(0 : PortIx)].queue = []) :
    ReportDue 1 (reportOf kind g) (reporting kind g s) := by
  refine ⟨h, rfl, ha, fun c e => ?_, [0], [2, 3, 4, 5], [], ?_, ?_, ?_⟩
  · have : s.win.command = some ⟨c, .engine⟩ := e
    rw [hc] at this; cases this
  · show searchOrder s.engine.lastServed = _
    rw [hl]; decide
  · intro q hm
    have : q = 0 := by simpa using hm
    subst this
    simpa [reporting, running, owning, State.withPort, Vector.getElem_set] using hq
  · simp [reporting, running, owning, State.withPort]

/-! ## Witnesses: a state and operands that meet the hypotheses of each statement, clause by clause -/

theorem waits (c : Command) (o : Owner) (p : Vector Word 6) (s : State) (h : s.held = false) :
    Waiting c o (waiting c o p s) := ⟨h, rfl⟩

theorem test_witness_StepRunsFrontCommand :
    ({ State.reset with pending := [.tick, .stampLoRead] } : State).pending = .tick :: [.stampLoRead] := rfl

theorem test_witness_IdleStepAndTick :
    State.reset.resets.porst = false ∧ (assertPorst State.reset).resets.porst = true ∧
      State.reset.pending = [] ∧ State.reset.time.count < State.reset.time.divisorInUse.toNat ∧
      (let last := State.reset.setTime { State.reset.time with count := 15999 }
       last.pending = [] ∧ last.resets.porst = false ∧ last.time.divisorInUse.toNat ≤ last.time.count) ∧
      (assertPorst State.reset).pending = [] := by decide +kernel

theorem test_witness_WhatCommandsLeaveUnchanged :
    exec .stampLoRead State.reset = .next (readStampLo State.reset) ∧
      (assertPorst State.reset).held = true ∧ (assertWrst State.reset).held = true ∧
      (∀ c o, ¬ Waiting c o State.reset) ∧
      (∀ s : State, s.win.command = some ⟨.setPort, .engine⟩ → ∀ ix : PortIx, ¬ Waiting .setPort (.port ix) s) := by
  refine ⟨rfl, rfl, rfl, fun c o h => ?_, fun s e ix h => ?_⟩
  · cases h.2
  · cases e.symm.trans h.2

theorem test_witness_EnterAndLeaveConfig :
    (∀ c ∈ [Command.enterConfig, .leaveConfig], Waiting c .engine (waiting c .engine #v[0, 0, 0, 0, 0, 0] (running State.reset)) ∧
      Waiting c .engine (waiting c .engine #v[0, 0, 0, 0, 0, 0] State.reset)) ∧
      (running State.reset).engine.mode = .run ∧ State.reset.engine.mode = .config :=
  ⟨fun c _ => ⟨waits c _ _ _ rfl, waits c _ _ _ rfl⟩, rfl, rfl⟩

/-- SET_MEMORY: each bad parameter at the value next to the good ones, and good ones at both ends. -/
theorem test_witness_SetMemoryChecksAndWrites :
    (∀ p s, s.held = false → Waiting .setMemory .engine (waiting .setMemory .engine p s)) ∧
      15 < (16 : Word).toNat ∧ 5 < (6 : Word).toNat ∧ (6 : Word) ≠ 0x00FF#16 ∧
      (∀ g : GranuleSize, (4097 : Word).toNat ≠ g.bytes) ∧
      2 ^ 29 < (1 : Word).toNat + 65536 * (0x2000 : Word).toNat ∧
      (0 : Word).toNat + 65536 * (0x2000 : Word).toNat ≤ 2 ^ 29 ∧
      (15 : Word).toNat = (15 : MemId).val ∧ (5 : Word).toNat = (5 : PortIx).val ∧
      (4096 : Word).toNat = GranuleSize.g4096.bytes ∧
      MemoryNamed 2 (State.reset.withC 31 (cAt 0 .counting)) ∧ ¬ MemoryNamed 2 State.reset := by
  refine ⟨fun p s h => waits _ _ _ _ h, by decide, by decide, by decide, ?_, by decide, by decide, by decide,
    by decide, by decide, Or.inl ⟨31, cAt 0 .counting, by decide +kernel, rfl⟩, ?_⟩
  · intro g; cases g <;> decide
  · have c : ∀ i : CSlot, State.reset.engine.cTable[i] = none := by decide +kernel
    have d : ∀ i : SSlot, State.reset.engine.sTable[i] = none := by decide +kernel
    rintro (⟨i, r, e, -⟩ | ⟨i, r, e, -⟩ | ⟨j, e, -⟩)
    · rw [c i] at e; cases e
    · rw [d i] at e; cases e
    · cases e

/-- SET_REGION: good ranges and policies at the ends of their values, and each bad value next to them. -/
theorem test_witness_SetRegionChecksAndWrites :
    (∀ p s, s.held = false → Waiting .setRegion .engine (waiting .setRegion .engine p s)) ∧
      12 < (lowByte 0x000D).toNat ∧ 1 < (highByte 0x0200).toNat ∧ (lowByte 0x000C).toNat = 12 ∧
      highByte 0x000C = 0 ∧ 2 ^ 29 ≤ (0 : Word).toNat + 65536 * (0x2000 : Word).toNat ∧
      (0xFFFF : Word).toNat + 65536 * (0x1FFF : Word).toNat = (0x1FFFFFFF : Granule).toNat ∧
      (lowByte 0x000B).toNat = (11 : Fin 12).val ∧ highByte 0x010C = 1 ∧ lowByte 0x0F01 ≠ 0 ∧
      (highByte 0x0F01).toNat ≤ 15 ∧ 15 < (highByte 0x1001).toNat ∧ lowByte 0x0F00 = 0 ∧
      (2 : Word) = SevereClass.immediate.code ∧ 2 < (3 : Word).toNat := by
  exact ⟨fun p s h => waits _ _ _ _ h, by decide +kernel⟩

theorem test_witness_ReadCommandsShowEntries :
    (∀ c ∈ [Command.readMemory, .readRegion], ∀ p, Waiting c .engine (waiting c .engine p State.reset)) ∧
      Waiting .readPort (.port 5) (waiting .readPort (.port 5) #v[5, 0, 0, 0, 0, 0] State.reset) ∧
      15 < (16 : Word).toNat ∧ (15 : Word).toNat = (15 : MemId).val ∧ 12 < (lowByte 0x010D).toNat ∧
      2 < (highByte 0x0300).toNat ∧ (lowByte 0x000B).toNat = (11 : Fin 12).val ∧
      (lowByte 0x020C).toNat = (12 : RegionIx).val ∧ highByte 0x020C = 2 ∧ highByte 0x010C = 1 ∧
      highByte 0x000B = 0 :=
  ⟨fun c _ p => waits c _ _ _ rfl, waits _ _ _ _ rfl, by decide +kernel⟩

/-- A region with a burst counter of b, muted or not, and a decay deadline. -/
def bursting (limit b : BitVec 8) (muted : Bool) (d : Option Stamp) (s : State) : State :=
  { s with
    engine := { s.engine with
      regions := s.engine.regions.set 12
        { s.engine.regions[12] with
          policy := { s.engine.regions[12].policy with burstLimit := limit }
          counts := { s.engine.regions[12].counts with burst := b, muted := muted, decayDeadline := d } } } }

theorem test_witness_RegionBurstState :
    (let r := fun limit b m d => (bursting limit b m d State.reset).engine.regions[(12 : RegionIx)]
     (r 0 0 false none).policy.burstLimit = 0 ∧
      ((r 2 0 false none).policy.burstLimit ≠ 0 ∧
        (r 2 0 false none).counts.burst + 1 ≠ (r 2 0 false none).policy.burstLimit) ∧
      (r 2 1 false (some 9)).counts.burst + 1 = (r 2 1 false (some 9)).policy.burstLimit ∧
      (r 2 2 true none).counts.muted = true ∧ (r 2 1 false (some 9)).counts.muted = false ∧
      (r 2 1 false (some 0)).counts.decayDeadline = some 0 ∧ ((0 : Stamp) - 0).toNat < 2 ^ 31 ∧
      ¬ ((0 : Stamp) - 1).toNat < 2 ^ 31 ∧ (r 3 1 false (some 0)).counts.burst.toNat ≤ 1 ∧
      1 < (r 3 2 false (some 0)).counts.burst.toNat) ∧
      12 < (13 : Word).toNat ∧ (12 : Word).toNat = (12 : RegionIx).val ∧
      Waiting .unmuteRegion .engine
        (waiting .unmuteRegion .engine #v[12, 0, 0, 0, 0, 0] (bursting 2 2 true none State.reset)) :=
  ⟨by decide +kernel, by decide, by decide, waits _ _ _ _ rfl⟩

/-- The record commands: a table or slot out of range, a version above 255, an empty slot, another version. -/
theorem test_witness_RecordCommandChecks :
    (∀ c ∈ [Command.retireRecord, .pinRecord, .unpinRecord, .settleRecord, .verifyRecord, .fetchRecord],
      ∀ p s, s.held = false → Waiting c .engine (waiting c .engine p s)) ∧
      lowByte 2 ≠ 0 ∧ lowByte 2 ≠ 1 ∧ 31 < (32 : Word).toNat ∧ 15 < (16 : Word).toNat ∧
      255 < (256 : Word).toNat ∧ (255 : Word).toNat ≤ 255 ∧ (31 : Word).toNat = (31 : CSlot).val ∧
      (15 : Word).toNat = (15 : SSlot).val ∧ State.reset.engine.cTable[(31 : CSlot)] = none ∧
      State.reset.engine.sTable[(15 : SSlot)] = none ∧
      (State.reset.withC 31 (cAt 0 .hard)).engine.cTable[(31 : CSlot)] = some (cAt 0 .hard) ∧
      (State.reset.withS 15 (sAt 0 .opened)).engine.sTable[(15 : SSlot)] = some (sAt 0 .opened) ∧
      (cAt 0 .hard).core.version.toNat ≠ (254 : Word).toNat ∧
      (cAt 0 .hard).core.version.toNat = (255 : Word).toNat :=
  ⟨fun c _ p s h => waits c _ _ _ h, by decide +kernel⟩

theorem test_witness_FetchAndFindRecordShowRecord :
    (∀ c ∈ [Command.fetchRecord, .findRecord], ∀ p s, s.held = false → Waiting c .engine (waiting c .engine p s)) ∧
      (0x0000 : Word).getLsbD 8 = false ∧ (0x0100 : Word).getLsbD 8 = true ∧ lowByte 0x0101 = 1 ∧
      (owning State.reset).engine.memories[(2 : MemId)].owner ≠ none ∧
      State.reset.engine.memories[(2 : MemId)].owner = none ∧
      (owning State.reset).engine.memories[(2 : MemId)].size ≤
        ((0x0400 : Word).toNat + 65536 * (0 : Word).toNat) / GranuleSize.g64.bytes ∧
      (keyAt 15).granule.toNat = ((0x03FF : Word).toNat + 65536 * (0 : Word).toNat) / GranuleSize.g64.bytes ∧
      (keyAt 15).granule.toNat < (owning State.reset).engine.memories[(2 : MemId)].size :=
  ⟨fun c _ p s h => waits c _ _ _ h, by decide +kernel⟩

/-- Every record of the two tables of a state, for witnesses about keys. -/
theorem held_c (slot : CSlot) (m : CMode) (s : State) (hc : ∀ i : CSlot, s.engine.cTable[i] = none)
    (hs : ∀ i : SSlot, s.engine.sTable[i] = none) (g : Granule) :
    HeldInC (keyAt g) slot (cAt g m) (s.withC slot (cAt g m)) := by
  refine ⟨by simp [State.withC], rfl, fun i r hi e => ?_, fun i r e => ?_⟩
  · have : (s.withC slot (cAt g m)).engine.cTable[i] = s.engine.cTable[i] := by
      have : slot.val ≠ i.val := fun e => absurd hi (by simp [Fin.lt_def, e])
      simp [State.withC, this]
    rw [this, hc i] at e; cases e
  · have : (s.withC slot (cAt g m)).engine.sTable[i] = s.engine.sTable[i] := rfl
    rw [this, hs i] at e; cases e

theorem held_s (slot : SSlot) (m : SMode) (s : State) (hs : ∀ i : SSlot, s.engine.sTable[i] = none)
    (g : Granule) : HeldInS (keyAt g) slot (sAt g m) (s.withS slot (sAt g m)) := by
  refine ⟨by simp [State.withS], rfl, fun i r hi e => ?_⟩
  have : (s.withS slot (sAt g m)).engine.sTable[i] = s.engine.sTable[i] := by
    have : slot.val ≠ i.val := fun e => absurd hi (by simp [Fin.lt_def, e])
    simp [State.withS, this]
  rw [this, hs i] at e; cases e

theorem no_c : ∀ i : CSlot, State.reset.engine.cTable[i] = none := by decide +kernel

theorem no_s : ∀ i : SSlot, State.reset.engine.sTable[i] = none := by decide +kernel

theorem absent_of (k : Key) (s : State) (hc : ∀ i : CSlot, s.engine.cTable[i] = none)
    (hs : ∀ i : SSlot, s.engine.sTable[i] = none) : KeyAbsent k s :=
  ⟨fun i r e => (by rw [hc i] at e; cases e), fun i r e => (by rw [hs i] at e; cases e)⟩

theorem test_witness_keys_of_both_tables :
    HeldInC (keyAt 15) 31 (cAt 15 .hard) (State.reset.withC 31 (cAt 15 .hard)) ∧
      HeldInS (keyAt 15) 15 (sAt 15 .settled) (State.reset.withS 15 (sAt 15 .settled)) ∧
      KeyAbsent (keyAt 15) State.reset :=
  ⟨held_c _ _ _ no_c no_s _, held_s _ _ _ no_s _, absent_of _ _ no_c no_s⟩

/-- A job stands alone in its slot among the jobs given. -/
theorem at_of (before : List Job) (j : Job) (after : List Job) (s : State)
    (h : ∀ k ∈ before ++ after, k.slot ≠ j.slot) : JobAt before j after (working (before ++ j :: after) s) :=
  ⟨rfl, h⟩

/-- RETIRE_RECORD of a C-record with and without a job, pinned, and of an S-record. -/
theorem test_witness_RetireRecordRemoves :
    (∀ p s, s.held = false → Waiting .retireRecord .engine (waiting .retireRecord .engine p s)) ∧
      (State.reset.withC 31 { cAt 0 .counting with pinned := true }).engine.cTable[(31 : CSlot)] =
        some { cAt 0 .counting with pinned := true } ∧
      (∀ j ∈ State.reset.sched.jobs, j.slot ≠ (31 : CSlot)) ∧
      JobAt [jobAt 0 1 .urgent (.queued none)] (jobAt 31 0 .normal (.inFlight 1 3 none none)) []
        (working [jobAt 0 1 .urgent (.queued none), jobAt 31 0 .normal (.inFlight 1 3 none none)]
          (State.reset.withC 31 (cAt 0 .suspect))) ∧
      (255 : Word).toNat = (cAt 0 .suspect).core.version.toNat :=
  ⟨fun p s h => waits _ _ _ _ h, by decide +kernel, by decide +kernel, at_of _ _ _ _ (by decide +kernel), by decide⟩

theorem test_witness_PinAndUnpinRecord :
    (let s := State.reset.withC 31 (cAt 0 .hard)
     let full := s.setPinned 24
     let last := s.setPinned 23
     lowByte 0xFF00 = 0 ∧ (31 : Word).toNat = (31 : CSlot).val ∧ s.engine.cTable[(31 : CSlot)] = some (cAt 0 .hard) ∧
      (cAt 0 .hard).pinned = false ∧ 24 ≤ full.engine.pinnedCount ∧ last.engine.pinnedCount < 24 ∧
      ({ cAt 0 .hard with pinned := true } : CRecord).pinned = true) ∧
      ∀ c ∈ [Command.pinRecord, .unpinRecord], ∀ p s, s.held = false → Waiting c .engine (waiting c .engine p s) :=
  ⟨by decide +kernel, fun c _ p s h => waits c _ _ _ h⟩

/-- SETTLE_RECORD, and the second one with the version first given. -/
theorem test_witness_SettleRecordSettlesOnce :
    (let p : Vector Word 6 := #v[1, 15, 255, 0, 0, 0]
     let s := waiting .settleRecord .engine p (State.reset.withS 15 (sAt 0 .opened))
     let settled := complete .ok none (s.withS 15 { sAt 0 .opened with
       mode := .settled
       core := { (sAt 0 .opened).core with version := (sAt 0 .opened).core.version + 1, codeAgrees := true } })
     let again := waiting .settleRecord .engine p settled
     Waiting .settleRecord .engine s ∧ s.engine.sTable[(15 : SSlot)] = some (sAt 0 .opened) ∧
      Waiting .settleRecord .engine again ∧ again.engine.sTable = settled.engine.sTable ∧
      again.win.params = s.win.params ∧ exec .settleRecord again = .next (complete .stale none again)) ∧
      (sAt 0 .settled).mode = .settled :=
  ⟨⟨⟨rfl, rfl⟩, by decide +kernel, ⟨rfl, rfl⟩, rfl, rfl, rfl⟩, rfl⟩

theorem test_witness_ClearTablesEmpties :
    (let s := working [jobAt 0 1 .urgent (.queued (some (1, 2))), jobAt 31 0 .normal (.answered 1 3 .clean)]
       State.reset
     Waiting .clearTables .engine (waiting .clearTables .engine #v[0, 0, 0, 0, 0, 0] s) ∧
      Waiting .clearTables .engine (waiting .clearTables .engine #v[0, 0, 0, 0, 0, 0] (running s)) ∧
      s.engine.mode = .config ∧ (s.sched.jobs.map Job.slot).Nodup ∧
      ∀ slot ∈ s.sched.answered, ∃ j ∈ s.sched.jobs, j.slot = slot) :=
  ⟨⟨rfl, rfl⟩, ⟨rfl, rfl⟩, rfl, by decide +kernel, by decide +kernel⟩

theorem test_witness_VerifyRecordEntersUrgentJob :
    (∀ p s, s.held = false → Waiting .verifyRecord .engine (waiting .verifyRecord .engine p s)) ∧
      (cAt 0 .hard).mode ≠ .suspect ∧
      8 ≤ (working (List.replicate 8 (jobAt 0 0 .normal (.queued none))) State.reset).sched.jobs.length ∧
      (working (List.replicate 7 (jobAt 0 0 .normal (.queued none))) State.reset).sched.jobs.length < 8 ∧
      (∀ j ∈ [jobAt 0 1 .urgent (.queued none)], j.cls = .urgent) ∧
      (∀ j ∈ [jobAt 2 2 .normal (.queued none)], j.cls = .normal) ∧
      JobAt [jobAt 0 1 .urgent (.queued none)] (jobAt 31 0 .normal (.queued (some (1, 4)))) []
        (working [jobAt 0 1 .urgent (.queued none), jobAt 31 0 .normal (.queued (some (1, 4)))] State.reset) ∧
      (∀ offer, (jobAt 31 0 .normal (.inFlight 1 4 none none)).mode ≠ .queued offer) :=
  ⟨fun p s h => waits _ _ _ _ h, by decide, by decide +kernel, by decide +kernel, by decide, by decide,
    at_of _ _ _ _ (by decide +kernel), nofun⟩

/-! ### Reports -/

/-- Entries 3 and 11 enabled for granules 8 to 15 of memory 2. -/
def ranged (s : State) : State :=
  let r : RegionRange := { enabled := true, mem := 2, base := 8, limit := 15 }
  { s with engine := { s.engine with ranges := (s.engine.ranges.set 3 r).set 11 r } }

/-- The lowest entry that covers the key, at both ends of its range; else the default region (R40). -/
theorem test_region_lookup :
    (ranged State.reset).lookupRegion (keyAt 8) = 3 ∧ (ranged State.reset).lookupRegion (keyAt 15) = 3 ∧
      (ranged State.reset).lookupRegion (keyAt 7) = 12 ∧ (ranged State.reset).lookupRegion (keyAt 16) = 12 := by
  decide +kernel

theorem test_witness_TakeReportWithoutTableEffect :
    (State.reset.held = false ∧ State.reset.engine.mode = .config ∧
      (working [jobAt 0 0 .normal (.answered 1 2 .clean)] (running State.reset)).sched.answered ≠ [] ∧
      (∀ ix : PortIx, State.reset.ports[ix].queue = []) ∧
      (waiting .fetchRecord .engine #v[0, 0, 0, 0, 0, 0] State.reset).win.command = some ⟨.fetchRecord, .engine⟩) ∧
      ReportDue 1 (reportOf .corr1 16) (reporting .corr1 16 State.reset) ∧
      (reporting .corr1 16 State.reset).engine.memories[(2 : MemId)].size ≤
        (reportOf .corr1 16).addr.toNat / GranuleSize.g64.bytes ∧
      ReportDue 1 (reportOf .corr1 15) (reporting .corr1 15 (bursting 1 1 true none State.reset)) ∧
      Admitted 1 (reportOf .corr1 15) (keyAt 15) 12 (reporting .corr1 15 (bursting 1 1 true none State.reset)) ∧
      (reporting .corr1 15 (bursting 1 1 true none State.reset)).engine.regions[(12 : RegionIx)].counts.muted = true := by
  refine ⟨by decide +kernel, due_of _ _ _ rfl rfl rfl rfl rfl, by decide +kernel, due_of _ _ _ rfl rfl rfl rfl rfl, ?_,
    by decide +kernel⟩
  unfold Admitted; decide +kernel

theorem test_witness_ReportUpdateOfRecord :
    ({ reportOf .corr1 0 with master := some 5 } : Report).master = some 5 ∧ (reportOf .corr1 0).master = none ∧
      ({ reportOf .corr1 0 with syndrome := some 0 } : Report).syndrome = some 0 ∧
      (reportOf .corr1 0).syndrome = none := by decide

theorem test_witness_CorrectableReportOnSRecord :
    (let s := reporting .scrub 15 (State.reset.withS 15 (sAt 15 .settled))
     ReportDue 1 (reportOf .scrub 15) s ∧ Admitted 1 (reportOf .scrub 15) (keyAt 15) 12 s ∧
      (reportOf .scrub 15).kind.severe = false ∧ s.engine.regions[(12 : RegionIx)].counts.muted = false ∧
      HeldInS (keyAt 15) 15 (sAt 15 .settled) s) :=
  ⟨due_of _ _ _ rfl rfl rfl rfl rfl, by unfold Admitted; decide +kernel, rfl, by decide +kernel,
    held_s 15 .settled (reporting .scrub 15 State.reset) no_s 15⟩

/-- Hits since verdict reach the threshold of 3 with this report, so that the check enters a job. -/
theorem test_witness_CorrectableReportOnCRecord :
    (let s := reporting .corrM 15 (State.reset.withC 31 (cAt 15 .counting))
     ReportDue 1 (reportOf .corrM 15) s ∧ Admitted 1 (reportOf .corrM 15) (keyAt 15) 12 s ∧
      (reportOf .corrM 15).kind.severe = false ∧ s.engine.regions[(12 : RegionIx)].counts.muted = false ∧
      HeldInC (keyAt 15) 31 (cAt 15 .counting) s) ∧
      EntersJob { cAt 15 .counting with hitsSinceVerdict := 3 } State.reset ∧
      ¬ EntersJob (cAt 15 .counting) State.reset :=
  ⟨⟨due_of _ _ _ rfl rfl rfl rfl rfl, by unfold Admitted; decide +kernel, rfl, by decide +kernel,
    held_c 31 .counting (reporting .corrM 15 State.reset) no_c no_s 15⟩, by unfold EntersJob; decide +kernel,
    by unfold EntersJob; decide +kernel⟩

theorem test_witness_CorrectableReportCreatesRecord :
    (let s := reporting .corr1 0 State.reset
     ReportDue 1 (reportOf .corr1 0) s ∧ Admitted 1 (reportOf .corr1 0) (keyAt 0) 12 s ∧
      s.engine.regions[(12 : RegionIx)].counts.muted = false ∧ KeyAbsent (keyAt 0) s ∧ LowestFreeC 0 s) :=
  ⟨due_of _ _ _ rfl rfl rfl rfl rfl, by unfold Admitted; decide +kernel, by decide +kernel,
    absent_of _ _ no_c no_s, by unfold LowestFreeC; decide +kernel⟩

theorem granule_far (i n : Nat) (hi : i < 32) (hn : n = 100 ∨ n = 200) : ¬ BitVec.ofNat 29 (i + n) = 0 := by
  intro e
  have := congrArg BitVec.toNat e
  simp at this
  omega

/-- A full C-table of one record's copies, each of another granule. -/
def fullC (m : CMode) (s : State) : State :=
  { s with engine := { s.engine with cTable := Vector.ofFn fun i => some (cAt (BitVec.ofNat 29 (i.val + 100)) m) } }

/-- A full S-table. -/
def fullS (s : State) : State :=
  { s with engine := { s.engine with sTable := Vector.ofFn fun i => some (sAt (BitVec.ofNat 29 (i.val + 200)) .opened) } }

theorem fullC_get (m : CMode) (s : State) (i : CSlot) :
    (fullC m s).engine.cTable[i] = some (cAt (BitVec.ofNat 29 (i.val + 100)) m) := by simp [fullC]

/-- Among records of equal age the victim is the one of slot 0; with none evictable there is no victim. -/
theorem test_witness_CorrectableReportOnFullTable :
    (∀ m, let s := reporting .corr1 0 (fullC m State.reset)
     ReportDue 1 (reportOf .corr1 0) s ∧ KeyAbsent (keyAt 0) s ∧
      (∀ i : CSlot, s.engine.cTable[i] ≠ none)) ∧
      Admitted 1 (reportOf .corr1 0) (keyAt 0) 12 (reporting .corr1 0 (fullC .counting State.reset)) ∧
      (∀ (i : CSlot) (r' : CRecord), (fullC .counting State.reset).engine.cTable[i] = some r' →
        ((0 : Stamp) - r'.core.lastStamp).toNat ≤ ((0 : Stamp) - (cAt 100 .counting).core.lastStamp).toNat ∧
          ¬ i < (0 : CSlot)) ∧
      (∀ (i : CSlot) (r : CRecord), (fullC .hard State.reset).engine.cTable[i] = some r →
        r.mode ≠ .counting ∨ r.pinned = true) ∧ State.reset.engine.cFullArmed = true := by
  refine ⟨fun m => ⟨due_of _ _ _ rfl rfl rfl rfl rfl, ⟨fun i r e => ?_, fun i r e => ?_⟩, fun i => ?_⟩, ?_, ?_, ?_, rfl⟩
  · have h : some (cAt (BitVec.ofNat 29 (i.val + 100)) m) = some r := (fullC_get m State.reset i).symm.trans e
    cases h
    intro e
    exact granule_far i.val 100 (by omega) (by decide) (congrArg Key.granule e)
  · have h := (no_s i).symm.trans e; cases h
  · have : (reporting .corr1 0 (fullC m State.reset)).engine.cTable[i] = _ := fullC_get m State.reset i
    rw [this]; simp
  · unfold Admitted; decide +kernel
  · intro i r e
    rw [fullC_get] at e; cases e
    exact ⟨by simp [cAt, coreAt], by simp⟩
  · intro i r e
    rw [fullC_get] at e; cases e
    left; simp [cAt]

theorem test_witness_SevereReportOnSRecord :
    (let s := reporting .uncorr 15 (State.reset.withS 15 (sAt 15 .settled))
     ReportDue 1 (reportOf .uncorr 15) s ∧ Admitted 1 (reportOf .uncorr 15) (keyAt 15) 12 s ∧
      (reportOf .uncorr 15).kind.severe = true ∧ HeldInS (keyAt 15) 15 (sAt 15 .settled) s) :=
  ⟨due_of _ _ _ rfl rfl rfl rfl rfl, by unfold Admitted; decide +kernel, rfl,
    held_s 15 .settled (reporting .uncorr 15 State.reset) no_s 15⟩

theorem test_witness_SevereReportPromotesCRecord :
    (let s := reporting .addrChk 15 (State.reset.withC 31 (cAt 15 .hard))
     ReportDue 1 (reportOf .addrChk 15) s ∧ Admitted 1 (reportOf .addrChk 15) (keyAt 15) 12 s ∧
      (reportOf .addrChk 15).kind.severe = true ∧ HeldInC (keyAt 15) 31 (cAt 15 .hard) s ∧ LowestFreeS 0 s) ∧
      (∀ m, JobAt [] (jobAt 31 0 .normal m) [jobAt 0 1 .urgent (.queued none)]
        (working [jobAt 31 0 .normal m, jobAt 0 1 .urgent (.queued none)] State.reset)) ∧
      (∀ j ∈ State.reset.sched.jobs, j.slot ≠ 31) :=
  ⟨⟨due_of _ _ _ rfl rfl rfl rfl rfl, by unfold Admitted; decide +kernel, rfl,
    held_c 31 .hard (reporting .addrChk 15 State.reset) no_c no_s 15, by unfold LowestFreeS; decide +kernel⟩,
    fun m => at_of _ _ _ _ (by simp [jobAt]), nofun⟩

theorem test_witness_SevereReportCreatesRecord :
    (let s := reporting .uncorr 0 State.reset
     ReportDue 1 (reportOf .uncorr 0) s ∧ Admitted 1 (reportOf .uncorr 0) (keyAt 0) 12 s ∧
      KeyAbsent (keyAt 0) s ∧ LowestFreeS 0 s) :=
  ⟨due_of _ _ _ rfl rfl rfl rfl rfl, by unfold Admitted; decide +kernel, absent_of _ _ no_c no_s,
    by unfold LowestFreeS; decide +kernel⟩

theorem test_witness_SevereReportWithoutRoom :
    (let s := reporting .uncorr 0 (fullS State.reset)
     ReportDue 1 (reportOf .uncorr 0) s ∧ Admitted 1 (reportOf .uncorr 0) (keyAt 0) 12 s ∧
      (∀ (i : SSlot) (r : SRecord), s.engine.sTable[i] = some r → r.core.key ≠ keyAt 0) ∧
      ∀ i : SSlot, s.engine.sTable[i] ≠ none) := by
  have h : ∀ i : SSlot, (reporting .uncorr 0 (fullS State.reset)).engine.sTable[i] =
      some (sAt (BitVec.ofNat 29 (i.val + 200)) .opened) := by
    intro i; simp [reporting, running, owning, State.withPort, fullS]
  refine ⟨due_of _ _ _ rfl rfl rfl rfl rfl, by unfold Admitted; decide +kernel, fun i r e => ?_, fun i => ?_⟩
  · rw [h i] at e; cases e
    intro e
    exact granule_far i.val 200 (by omega) (by decide) (congrArg Key.granule e)
  · rw [h i]; simp

/-! ### Answers and the verify scheduler -/

/-- A state in which the ANSWERED job of slot 31 is due, an URGENT job before it and a NORMAL one after it. -/
def answering (a : Answer) (attempts : BitVec 3) (cls : JobClass) (r : CRecord) (s : State) : State :=
  working [jobAt 0 1 .urgent (.queued none),
    { jobAt 31 0 cls (.answered 1 15 a) with attempts := attempts }, jobAt 2 2 .normal (.queued none)]
    (s.withC 31 r)

theorem answer_due (a : Answer) (attempts : BitVec 3) (cls : JobClass) (r : CRecord) (s : State)
    (h : s.held = false) (hc : s.win.command = none) :
    AnswerDue [jobAt 0 1 .urgent (.queued none)] { jobAt 31 0 cls (.answered 1 15 a) with attempts := attempts }
      [jobAt 2 2 .normal (.queued none)] [] r a (answering a attempts cls r s) := by
  refine ⟨h, fun c e => ?_, rfl, List.not_mem_nil, ⟨rfl, ?_⟩, ⟨1, 15, rfl⟩, ?_⟩
  · rw [show (answering a attempts cls r s).win.command = none from hc] at e; cases e
  · intro k hk
    rcases List.mem_append.mp hk with m | m <;> (rw [List.mem_singleton.mp m]; show (_ : CSlot) ≠ 31; decide)
  · simp [answering, working, State.withC, jobAt]

/-- The soft limit 3 of the default region is met by the third CLEAN, not by the second; the counter stays at 15. -/
theorem test_witness_CleanAndPersistsAnswersApplied :
    (∀ a r, AnswerDue [jobAt 0 1 .urgent (.queued none)]
      { jobAt 31 0 .normal (.answered 1 15 a) with attempts := 1 } [jobAt 2 2 .normal (.queued none)] [] r a
      (answering a 1 .normal r State.reset)) ∧
      (let s := answering .clean 1 .normal (cAt 0 .suspect) State.reset
       let limit := s.engine.regions[(cAt 0 .suspect).core.region].policy.softLimit
       limit ≠ 0 ∧ (1 : BitVec 4) + 1 < limit ∧ limit ≤ (2 : BitVec 4) + 1 ∧ limit ≤ (15 : BitVec 4)) ∧
      ({ cAt 0 .suspect with softVerdicts := 1 } : CRecord).softVerdicts = 1 :=
  ⟨fun a r => answer_due a 1 .normal r State.reset rfl rfl, by decide +kernel, rfl⟩

/-- The retry limit of 3 is met by the third FAILED attempt, not by the second. -/
theorem test_witness_FailedAnswerApplied :
    (∀ n cls, AnswerDue [jobAt 0 1 .urgent (.queued none)]
      { jobAt 31 0 cls (.answered 1 15 .failed) with attempts := n } [jobAt 2 2 .normal (.queued none)] []
      (cAt 0 .suspect) .failed (answering .failed n cls (cAt 0 .suspect) State.reset)) ∧
      State.reset.win.settings.retryLimit.toNat ≤ (2 : BitVec 3).toNat + 1 ∧
      (1 : BitVec 3).toNat + 1 < State.reset.win.settings.retryLimit.toNat ∧
      (∀ k ∈ [jobAt 0 1 .urgent (.queued none)], k.cls = .urgent) ∧
      (∀ k ∈ [jobAt 2 2 .normal (.queued none)], k.cls = .normal) ∧ State.reset.sched.answered = [] ∧
      (waiting .pinRecord .engine #v[0, 0, 0, 0, 0, 0] State.reset).win.command = some ⟨.pinRecord, .engine⟩ :=
  ⟨fun n cls => answer_due .failed n cls _ State.reset rfl rfl, by decide, by decide,
    by decide, by decide, rfl, rfl⟩

/-- The part in RUN with memory 2 of port 1, jobs, and port 1 READY with a tag and hand-overs. -/
def flying (tag : Option Tag) (hs : List Handover) (jobs : List Job) : State :=
  working jobs (port1 .ready tag none hs (running (owning State.reset)))

def offered (tag : Tag) : Job := jobAt 31 0 .normal (.queued (some (1, tag)))

def inFlight (tag : Tag) (d : Option Stamp) (c : Option CancelReason) : Job :=
  jobAt 31 0 .normal (.inFlight 1 tag d c)

def queuedUrgent : Job := jobAt 0 1 .urgent (.queued none)

def queuedNormal : Job := jobAt 2 2 .normal (.queued none)

theorem jobs_of_flying :
    ∀ j ∈ (flying none [] [jobAt 3 3 .urgent (.queued (some (0, 9))), queuedNormal]).sched.jobs, ∀ tag,
      j.mode ≠ .queued (some ((1 : PortIx), tag)) := by
  intro j hj tag e
  have hj : j = jobAt 3 3 .urgent (.queued (some (0, 9))) ∨ j = queuedNormal := by simpa [flying, working] using hj
  rcases hj with rfl | rfl <;> cases e

/-- A port without a tag, and one whose tag has its cancel request waiting, are free; an offer makes it not free. A dispatch
still to be taken keeps a job from being offered. -/
theorem test_witness_DispatchOffersFirstJob :
    (let s := flying none [] [jobAt 3 3 .urgent (.queued (some (0, 9))), queuedNormal]
     s.held = false ∧ s.ports[(1 : PortIx)].mode = .ready ∧
      (∀ tag, s.ports[(1 : PortIx)].outstanding ≠ some tag) ∧
      (∀ j ∈ s.sched.jobs, ∀ tag, j.mode ≠ .queued (some ((1 : PortIx), tag))) ∧
      JobAt [jobAt 3 3 .urgent (.queued (some (0, 9)))] queuedNormal [] s ∧ s.engine.mode = .run ∧
      queuedNormal.mode = .queued none ∧
      s.engine.memories[queuedNormal.key.mem].owner = some (1 : PortIx) ∧
      (∀ k ∈ [jobAt 3 3 .urgent (.queued (some (0, 9)))], k.mode ≠ .queued none)) ∧
      Handover.cancel 15 ∈ (flying (some 15) [.cancel 15] []).sched.handovers[(1 : PortIx)] ∧
      (flying (some 15) [.cancel 15] []).ports[(1 : PortIx)].outstanding = some 15 ∧
      Handover.cancel 15 ∉ (flying (some 15) [] []).sched.handovers[(1 : PortIx)] ∧
      (offered 4).mode = .queued (some ((1 : PortIx), (4 : Tag))) ∧
      (∀ id tag m a, Handover.dispatch id tag m a ∉
        (flying none [] [jobAt 3 3 .urgent (.queued (some (0, 9))), queuedNormal]).sched.handovers[(1 : PortIx)]) ∧
      (∀ id tag m a, Handover.dispatch id tag m a ∉ (flying (some 15) [.cancel 15] []).sched.handovers[(1 : PortIx)]) ∧
      Handover.dispatch 31 15 2 0 ∈
        (flying none [.dispatch 31 15 2 0, .cancel 15] [queuedNormal]).sched.handovers[(1 : PortIx)] := by
  refine ⟨⟨rfl, rfl, nofun, jobs_of_flying, at_of _ _ _ _ (by decide +kernel), rfl, rfl, rfl,
    by decide +kernel⟩, by decide +kernel, rfl, by decide +kernel, rfl, ?_, ?_, by decide +kernel⟩ <;>
    intro id tag m a h
  · cases h
  · cases List.mem_singleton.mp h

/-- The dispatch of a withdrawn job, still to be taken with its cancel request, keeps the next job waiting (R108); once both
are taken that job is chosen. -/
theorem test_dispatch_waits_for_the_untaken_one :
    dispatchJob 1 (flying none [.dispatch 31 15 2 0, .cancel 15] [queuedNormal]) = none ∧
      dispatchJob 1 (flying none [] [queuedNormal]) = some queuedNormal := by decide +kernel

/-- A dispatch at the head; the job it names offered with its tag, or withdrawn while a later job is offered with the tag
drawn again; the port free, with a tag or not READY. -/
theorem test_witness_TakeDispatchFliesOrRefuses :
    (∀ tag, let s := flying tag [.dispatch 31 15 2 0, .cancel 3] [queuedUrgent, offered 15]
     s.held = false ∧ s.sched.handovers[(1 : PortIx)] = [.dispatch 31 15 2 0, .cancel 3] ∧
      JobAt [queuedUrgent] (offered 15) [] s ∧
      ((offered 15).id = 31 ∧ (offered 15).mode = .queued (some ((1 : PortIx), (15 : Tag)))) ∧
      (∀ k ∈ [queuedUrgent], ¬ (k.id = 31 ∧ k.mode = .queued (some ((1 : PortIx), (15 : Tag))))) ∧
      s.ports[(1 : PortIx)].mode = .ready ∧ s.ports[(1 : PortIx)].outstanding = tag) ∧
      (∀ j ∈ (flying none [.dispatch 30 15 2 0] [queuedUrgent, offered 15]).sched.jobs,
        ¬ (j.id = 30 ∧ j.mode = .queued (some ((1 : PortIx), (15 : Tag))))) ∧
      (∀ id tag m a, (flying none [.cancel 3] []).sched.handovers[(1 : PortIx)].head? ≠
        some (.dispatch id tag m a)) :=
  ⟨fun tag => ⟨rfl, rfl, at_of _ _ _ _ (by decide +kernel), ⟨rfl, rfl⟩, by decide +kernel, rfl, rfl⟩,
    by decide +kernel, nofun⟩

/-- A withdrawn job's dispatch, taken after its tag was drawn again for a later job, changes no job (R109). -/
theorem test_withdrawn_dispatch_leaves_later_job :
    (takeDispatch 1 (flying none [.dispatch 30 15 2 0] [offered 15])).sched.jobs = [offered 15] ∧
      (takeDispatch 1 (flying (some 3) [.dispatch 30 15 2 0] [offered 15])).sched.jobs = [offered 15] := by
  decide +kernel

/-- Deadlines at the stamp, and 2^31 - 1 and 2^31 ticks before it. -/
theorem test_witness_PreemptAndVerifyTimeout :
    (∀ d, let s := flying (some 15) [] [queuedUrgent, inFlight 15 d none]
     s.held = false ∧ JobAt [queuedUrgent] (inFlight 15 d none) [] s ∧
      (inFlight 15 d none).mode = .inFlight 1 15 d none ∧ (inFlight 15 d none).cls = .normal ∧
      (∀ k ∈ [queuedUrgent], ∀ tag d, ¬ (k.cls = .normal ∧ k.mode = .inFlight 1 tag d none)) ∧
      (∃ u ∈ s.sched.jobs, u.cls = .urgent ∧ u.mode = .queued none ∧
        s.engine.memories[u.key.mem].owner = some (1 : PortIx)) ∧
      (∀ u ∈ s.sched.jobs, u.cls = .urgent → ∀ tag,
        u.mode ≠ .queued (some ((1 : PortIx), tag)) ∧ ∀ d c, u.mode ≠ .inFlight 1 tag d c) ∧
      s.engine.mode = .run) ∧
      (∀ u ∈ (flying (some 15) [] [queuedNormal, inFlight 15 none none]).sched.jobs, u.cls ≠ .urgent) ∧
      (∀ j ∈ (flying (some 15) [] [queuedUrgent, inFlight 15 none (some .preempted)]).sched.jobs, ∀ tag d,
        ¬ (j.cls = .normal ∧ j.mode = .inFlight 1 tag d none)) ∧
      ((0 : Stamp) - 0).toNat < 2 ^ 31 ∧ ((0 : Stamp) - 0x80000001).toNat < 2 ^ 31 ∧
      2 ^ 31 ≤ ((0 : Stamp) - 0x80000000).toNat ∧
      (∀ j ∈ (flying (some 15) [] [inFlight 15 none none]).sched.jobs, j.slot = (31 : CSlot) →
        ∀ ix tag d c, j.mode ≠ .inFlight ix tag (some d) c) := by
  refine ⟨fun d => ⟨rfl, at_of _ _ _ _ ?_, rfl, rfl, ?_, ⟨queuedUrgent, ?_, rfl, rfl, rfl⟩, ?_, rfl⟩, ?_, ?_,
    by decide, by decide, by decide, ?_⟩
  · intro k hk; rw [show k = queuedUrgent by simpa using hk]; show (0 : CSlot) ≠ 31; decide
  · intro k hk tag d e; rw [show k = queuedUrgent by simpa using hk] at e; exact nomatch e.1
  · simp [flying, working]
  · intro u hu e tag
    have hu : u = queuedUrgent ∨ u = inFlight 15 d none := by simpa [flying, working] using hu
    rcases hu with rfl | rfl
    · exact ⟨nofun, nofun⟩
    · cases e
  · decide +kernel
  · intro j hj tag d e
    have hj : j = queuedUrgent ∨ j = inFlight 15 none (some .preempted) := by simpa [flying, working] using hj
    rcases hj with rfl | rfl
    · exact nomatch e.1
    · exact nomatch e.2
  · intro j hj _ ix tag d c e
    rw [show j = inFlight 15 none none by simpa [flying, working] using hj] at e
    cases e

theorem test_witness_CancelRequestOutcome :
    (∀ c, let s := flying (some 15) [.cancel 15] [queuedUrgent, inFlight 15 none c, queuedNormal]
     s.held = false ∧ s.sched.handovers[(1 : PortIx)] = [.cancel 15] ∧
      s.ports[(1 : PortIx)].outstanding = some 15 ∧ JobAt [queuedUrgent] (inFlight 15 none c) [queuedNormal] s ∧
      (∀ k ∈ [queuedUrgent], ∀ d c, k.mode ≠ .inFlight 1 15 d c) ∧
      (inFlight 15 none c).mode = .inFlight 1 15 none c ∧
      [queuedUrgent] ++ [queuedNormal] = [queuedUrgent] ++ [queuedNormal] ∧
      (∀ k ∈ [queuedUrgent], k.cls = .urgent) ∧ (∀ k ∈ [queuedNormal], k.cls = .normal)) ∧
      (flying (some 14) [.cancel 15] []).ports[(1 : PortIx)].outstanding ≠ some 15 ∧
      (∀ j ∈ (flying (some 15) [.cancel 15] [inFlight 14 none none]).sched.jobs, ∀ d c,
        j.mode ≠ .inFlight 1 15 d c) ∧
      (∀ tag, (flying none [.dispatch 0 15 2 0] []).sched.handovers[(1 : PortIx)].head? ≠ some (.cancel tag)) := by
  refine ⟨fun c => ⟨rfl, rfl, rfl, at_of _ _ _ _ ?_, ?_, rfl, rfl, by decide, by decide⟩, by decide +kernel, ?_,
    nofun⟩
  · intro k hk
    rcases List.mem_append.mp hk with m | m <;> (rw [List.mem_singleton.mp m]; show (_ : CSlot) ≠ 31; decide)
  · intro k hk d c e; rw [show k = queuedUrgent by simpa using hk] at e; cases e
  · intro j hj d c e
    rw [show j = inFlight 14 none none by simpa [flying, working] using hj] at e
    cases e

theorem test_witness_ReturnedJobHeadsItsClass :
    (let s := flying (some 15) [] [queuedUrgent, inFlight 15 (some 9) none, queuedNormal]
     JobAt [queuedUrgent] (inFlight 15 (some 9) none) [queuedNormal] s ∧
      (inFlight 15 (some 9) none).mode = .inFlight 1 15 (some 9) none ∧
      (∀ k ∈ [queuedUrgent], ∀ d c, k.mode ≠ .inFlight 1 15 d c) ∧ (∀ k ∈ [queuedUrgent], k.cls = .urgent) ∧
      ∀ k ∈ [queuedNormal], k.cls = .normal) ∧
      ∀ j ∈ (flying (some 15) [] [queuedUrgent]).sched.jobs, ∀ d c, j.mode ≠ .inFlight 1 14 d c := by
  refine ⟨⟨at_of _ _ _ _ (by decide +kernel), rfl, ?_, by decide, by decide⟩, ?_⟩
  · intro k hk d c e; rw [show k = queuedUrgent by simpa using hk] at e; cases e
  · intro j hj d c e; rw [show j = queuedUrgent by simpa [flying, working] using hj] at e; cases e

/-! ### Report ports -/

/-- A port 1 with a frame under reception. -/
def receiving (m : PortMode) (tag : Option Tag) : State :=
  port1 m tag (some { deadline := 0, bitTime := 4 }) [] (owning State.reset)

theorem receives (m : PortMode) (tag : Option Tag) : Receiving 1 m (receiving m tag) :=
  ⟨rfl, nofun, rfl⟩

theorem test_witness_HelloOpensOrRestartsLink :
    Receiving 1 .listen (receiving .listen none) ∧ Receiving 1 .ready (receiving .ready (some 15)) ∧
      (receiving .listen none).ports[(1 : PortIx)].outstanding = none ∧
      (receiving .ready (some 15)).ports[(1 : PortIx)].outstanding = some 15 ∧
      Receiving 1 .halted (receiving .halted none) ∧ State.reset.held = false ∧
      State.reset.ports[(1 : PortIx)].rx = none :=
  ⟨receives _ _, receives _ _, rfl, rfl, receives _ _, rfl, rfl⟩

/-- Port 1 in READY with a queue of n reports and a last accepted number. -/
def queueing (n : Nat) (last : Option Byte) : State :=
  let s := receiving .ready none
  s.withPort 1 { s.ports[(1 : PortIx)] with
    queue := List.replicate n (reportOf .corr1 0), expected := 0, lastAccepted := last }

def frameOf (seq : Byte) (kind : BitVec 3) (mem : Byte) (addr : BitVec 32) : ReportFrame :=
  { seq := seq, kind := kind, mem := mem, addr := addr, master := none, syndrome := none }

/-- Kinds 0, 1, 5 and 6, memory ids 15 and 16, the last and the first address outside 16 granules of 64 bytes, queues
of 3 and 4, the repeated number FFh before the expected 00h. -/
theorem test_witness_ReportFrameInReadyIsChecked :
    (∀ n last, Receiving 1 .ready (queueing n last)) ∧
      (queueing 0 (some 0xFF)).ports[(1 : PortIx)].lastAccepted = some (frameOf 0xFF 1 2 0).seq ∧
      (frameOf 1 1 2 0).seq ≠ (queueing 0 (some 0xFF)).ports[(1 : PortIx)].expected ∧
      (frameOf 0 0 2 0).kind = 0 ∧ 5 < (frameOf 0 6 2 0).kind.toNat ∧ 15 < (frameOf 0 1 16 0).mem.toNat ∧
      (frameOf 0 5 15 0).kind.toNat = 5 ∧ (frameOf 0 5 15 0).mem.toNat = (15 : MemId).val ∧
      (queueing 0 none).engine.memories[(2 : MemId)].size ≤ (frameOf 0 1 2 1024).addr.toNat / GranuleSize.g64.bytes ∧
      (frameOf 0 1 2 1023).addr.toNat / GranuleSize.g64.bytes < (queueing 0 none).engine.memories[(2 : MemId)].size ∧
      (queueing 0 none).engine.memories[(2 : MemId)].owner = some (1 : PortIx) ∧
      (queueing 0 none).engine.memories[(15 : MemId)].owner ≠ some (1 : PortIx) ∧
      4 ≤ (queueing 4 none).ports[(1 : PortIx)].queue.length ∧
      (queueing 3 none).ports[(1 : PortIx)].queue.length < 4 :=
  ⟨fun n last => ⟨rfl, nofun, rfl⟩, by decide +kernel⟩

theorem alone_urgent : ∀ k ∈ [queuedUrgent], ∀ d c, k.mode ≠ .inFlight 1 15 d c := by
  intro k hk d c e
  rw [List.mem_singleton.mp hk] at e
  cases e

theorem test_witness_VerdictMatchesOrIsStale :
    Receiving 1 .ready (receiving .ready (some 15)) ∧
      (receiving .ready (some 15)).ports[(1 : PortIx)].outstanding = some 15 ∧
      (0x0F : Byte).toNat = (15 : Tag).toNat ∧ (0x1F : Byte).toNat ≠ (15 : Tag).toNat ∧
      3 < (4 : Byte).toNat ∧ (1 : Byte).toNat = 1 ∧ (3 : Byte).toNat = 3 ∧
      (∀ t, (receiving .ready none).ports[(1 : PortIx)].outstanding ≠ some t) ∧
      JobAt [queuedUrgent] (inFlight 15 (some 9) none) []
        (working [queuedUrgent, inFlight 15 (some 9) none] (receiving .ready (some 15))) ∧
      (∀ k ∈ [queuedUrgent], ∀ d c, k.mode ≠ .inFlight 1 15 d c) ∧
      ∀ j ∈ (receiving .ready (some 15)).sched.jobs, ∀ d c, j.mode ≠ .inFlight 1 15 d c :=
  ⟨receives _ _, rfl, by decide, by decide, by decide, rfl, rfl, nofun,
    at_of _ _ _ _ (by decide +kernel), alone_urgent, nofun⟩

theorem test_witness_FramesOutsideReady :
    Receiving 1 .listen (receiving .listen none) ∧ Receiving 1 .halted (receiving .halted none) ∧
      State.reset.held = false ∧ State.reset.ports[(1 : PortIx)].rx = none :=
  ⟨receives _ _, receives _ _, rfl, rfl⟩

/-- Low periods of 48, 49, 63, 64, 65536 and 65537 clock periods at a bit time of 4, and deadlines on both sides of their
reach. -/
theorem test_witness_BadFramesAreCountedAndHalt :
    (∀ m ∈ [PortMode.listen, .ready, .halted], ∀ tag, (receiving m tag).held = false ∧
      (receiving m tag).ports[(1 : PortIx)].mode ≠ .down ∧
      (receiving m tag).ports[(1 : PortIx)].rx = some { deadline := 0, bitTime := 4 } ∧
      (receiving m tag).ports[(1 : PortIx)].outstanding = tag) ∧
      receive (bytesOnLane (byteBits 0x03)) = .incomplete ∧ receive (bytesOnLane (byteBits 0x00)) = .bad ∧
      receive (bytesOnLane ([0x03, 1, 1, 0, 0].flatMap byteBits)) = .bad ∧
      ((0 : Stamp) - 0).toNat < 2 ^ 31 ∧ 2 ^ 31 ≤ ((0 : Stamp) - 1).toNat ∧ (48 : Clocks) ≤ 12 * 4 ∧
      12 * (4 : Clocks) < 49 ∧ (63 : Clocks) < 64 ∧ (65536 : Clocks) < 65537 ∧ 12 * (4 : Clocks) < 64 ∧
      (64 : Clocks) ≤ 65536 ∧
      ({ (receiving .ready none).ports[(1 : PortIx)] with haltOnError := true } : Port).haltOnError = true := by
  refine ⟨fun m hm tag => ⟨rfl, ?_, rfl, rfl⟩, by decide +kernel⟩
  show m ≠ .down
  revert m; decide

/-- Port 1 in LISTEN, ignoring its lane until it has been high for b clock periods. -/
def ignoringLane (b : Clocks) : State :=
  let s := port1 .listen none none [] State.reset
  s.withPort 1 { s.ports[(1 : PortIx)] with ignoring := some b }

/-- A delimiter after 3 clock periods high is ignored, and after 4 opens a frame (R176). -/
theorem test_ignored_until_one_bit_time_high :
    lowPeriod 1 3 64 (ignoringLane 4) = ignoringLane 4 ∧
      ((lowPeriod 1 4 64 (ignoringLane 4)).ports[(1 : PortIx)].rx.map Reception.bitTime) = some 4 := by decide +kernel

/-- A delimiter of 80 clock periods during a frame with bit time 4: the frame is counted and a new one opens (R80, R81). -/
theorem test_delimiter_during_a_frame :
    (let p := (lowPeriod 1 0 80 (receiving .ready none)).ports[(1 : PortIx)]
     p.checkErrors = 1 ∧ p.rx = some { deadline := 5, bitTime := 5 } ∧ p.bitTime = some 5) ∧
      (lowPeriod 1 0 63 (receiving .ready none)).ports[(1 : PortIx)].ignoring = some 4 := by decide +kernel

theorem test_witness_LowPeriodsAndOutboundFrames :
    (let p := (port1 .listen none none [] State.reset).ports[(1 : PortIx)]
     p.mode ≠ .down ∧ p.rx = none ∧ p.sending = none ∧ (∀ b, p.ignoring = some b → b ≤ 0)) ∧
      (let p := (ignoringLane 4).ports[(1 : PortIx)]
       p.mode ≠ .down ∧ p.rx = none ∧ p.ignoring = some 4 ∧ (3 : Clocks) < 4 ∧ (4 : Clocks) ≤ 4) ∧
      (assertPorst State.reset).held = true ∧ (64 : Clocks) ≤ 65536 ∧ (63 : Clocks) < 64 ∧
      (65536 : Clocks) < 65537 ∧ State.reset.ports[(1 : PortIx)].mode = .down ∧
      (let p := (State.reset.ports[(1 : PortIx)]).produce (.ack 1)
       p.sending ≠ none ∧ p.waiting = [] ∧ (p.produce (.ack 2)).sending = p.sending ∧
        (p.produce (.ack 2)).waiting = [.ack 2]) :=
  ⟨⟨nofun, rfl, rfl, nofun⟩, by decide +kernel⟩

theorem test_witness_SetPortEnablesAndDisables :
    (∀ p s, s.held = false → Waiting .setPort (.port 1) (waiting .setPort (.port 1) p s)) ∧
      (3 : Word).getLsbD 0 = true ∧ (2 : Word).getLsbD 0 = false ∧
      State.reset.ports[(1 : PortIx)].mode = .down ∧
      (receiving .halted none).ports[(1 : PortIx)].mode ≠ .down ∧
      (receiving .halted none).ports[(1 : PortIx)].outstanding = none ∧
      (receiving .ready (some 15)).ports[(1 : PortIx)].mode ≠ .down ∧
      (receiving .ready (some 15)).ports[(1 : PortIx)].outstanding = some 15 :=
  ⟨fun p s h => waits _ _ _ _ h, by decide +kernel⟩

theorem test_witness_RestartPortLeavesHalted :
    (let s := waiting .restartPort (.port 1) #v[1, 0, 0, 0, 0, 0] (receiving .halted none)
     Waiting .restartPort (.port 1) s ∧ s.ports[(1 : PortIx)].mode = .halted ∧
      s.ports[(1 : PortIx)].rx ≠ none ∧ s.ports[(1 : PortIx)].outstanding = none) ∧
      (receiving .ready none).ports[(1 : PortIx)].mode ≠ .halted :=
  ⟨⟨⟨rfl, rfl⟩, rfl, nofun, rfl⟩, nofun⟩

theorem test_witness_FlushPortEmptiesQueue :
    ∀ n, Waiting .flushPort (.port 1) (waiting .flushPort (.port 1) #v[1, 0, 0, 0, 0, 0] (queueing n none)) :=
  fun _ => ⟨rfl, rfl⟩

/-! ### Notices, escalation, the window and the resets -/

/-- A state with notices queued, numbered from 0, the first with a deadline. -/
def noticing (n : Nat) (d : Option Stamp) (s : State) : State :=
  { s with notices := { s.notices with
      entries := (List.range n).map fun k =>
        { seq := BitVec.ofNat 16 k, body := .severe (.s 15) 1 (keyAt 0) 12 false, stamp := 0
          deadline := if k = 0 then d else none, expired := false }
      nextSeq := BitVec.ofNat 16 n } }

theorem test_witness_PostEntersOrLosesNotice :
    (noticing 15 none State.reset).notices.entries.length < 16 ∧
      16 ≤ (noticing 16 none State.reset).notices.entries.length := by decide +kernel

/-- A state in an escalation state, with a hold deadline. -/
def escalated (m : EscMode) (d : Option Stamp) (s : State) : State :=
  { s with esc := { s.esc with mode := m, holdDeadline := d } }

theorem test_witness_CausesMoveEscalationAndLines :
    ∀ m, (escalated m none State.reset).esc.mode = m := fun _ => rfl

theorem test_witness_AckNoticeRemovesHead :
    (let s := fun seq => waiting .ackNotice .notices #v[seq, 0, 0, 0, 0, 0] (noticing 2 none State.reset)
     (∀ seq, Waiting .ackNotice .notices (s seq)) ∧
      (s 0).notices.entries.head?.map Notice.seq = some (s 0).win.params[0] ∧
      (s 1).notices.entries.head?.map Notice.seq ≠ some (s 1).win.params[0] ∧ (s 0).notices.lost = 0) ∧
      Waiting .ackNotice .notices (waiting .ackNotice .notices #v[0, 0, 0, 0, 0, 0] State.reset) ∧
      State.reset.notices.entries = [] ∧ (noticing 2 none State.reset).held = false ∧
      (0x13 : BitVec 5).toNat = 0x13 ∧ (0x18 : BitVec 5).toNat = 0x18 :=
  ⟨⟨fun _ => ⟨rfl, rfl⟩, by decide +kernel, by decide +kernel, rfl⟩, ⟨rfl, rfl⟩, rfl, rfl, rfl, rfl⟩

/-- The notice window shows a SEVERE notice for S15, version 1, region 12, memory 2 (Table 11-8). -/
theorem test_notice_window :
    readRegister 0x14 (noticing 1 (some 9) State.reset) = 0x01C1 ∧
      readRegister 0x15 (noticing 1 (some 9) State.reset) = 0x8FC2 := by decide +kernel

theorem test_witness_DeadlinesRaiseCauses :
    (∀ d, ∃ n after, (noticing 2 d State.reset).notices.entries = [] ++ n :: after ∧
      (∀ m ∈ [] ++ after, m.seq ≠ n.seq) ∧ n.deadline = d) ∧
      (∀ n ∈ (noticing 2 none State.reset).notices.entries, n.seq ≠ 2) ∧
      ((0 : Stamp) - 0).toNat < 2 ^ 31 ∧ 2 ^ 31 ≤ ((0 : Stamp) - 1).toNat ∧ State.reset.held = false ∧
      (escalated .fault (some 0) State.reset).esc.mode = .fault ∧
      (escalated .fault (some 0) State.reset).esc.holdDeadline = some 0 ∧ State.reset.esc.mode ≠ .fault := by
  refine ⟨fun d => ⟨_, _, rfl, ?_, rfl⟩, by decide +kernel⟩
  intro m hm
  have : m = _ := List.mem_singleton.mp hm
  subst this
  show BitVec.ofNat 16 1 ≠ BitVec.ofNat 16 0
  decide

theorem test_witness_ClearFaultAndReadReaction :
    (∀ m, (let s := waiting .clearFault .escalation #v[0, 0, 0, 0, 0, 0] (escalated m none State.reset)
       Waiting .clearFault .escalation s ∧ s.esc.mode = m ∧ ∀ n ∈ s.notices.entries, n.expired = false)) ∧
      (∃ n ∈ ({ State.reset with notices := { State.reset.notices with
          entries := [{ seq := 0, body := .lost 1, stamp := 0, deadline := none, expired := true }] } } :
            State).notices.entries, n.expired = true) ∧
      ∀ w, Waiting .readReaction .escalation
        (waiting .readReaction .escalation #v[w, 0, 0, 0, 0, 0] (escalated .fault none State.reset)) :=
  ⟨fun _ => ⟨⟨rfl, rfl⟩, rfl, nofun⟩, ⟨_, List.mem_singleton.mpr rfl, rfl⟩, fun _ => ⟨rfl, rfl⟩⟩

theorem test_witness_CommandWritesAreAccepted :
    State.reset.held = false ∧ State.reset.win.cmdState ≠ .busy ∧
      5 < (6 : Word).toNat ∧ (5 : Word).toNat = (5 : PortIx).val ∧ 0x18 < (0x19 : Word).toNat := by decide

theorem test_witness_OverrunIsIgnoredAndMarked :
    (waiting .enterConfig .engine #v[0, 0, 0, 0, 0, 0] State.reset).held = false ∧
      (waiting .enterConfig .engine #v[0, 0, 0, 0, 0, 0] State.reset).win.cmdState = .busy ∧
      State.reset.win.cmdState ≠ .busy := ⟨rfl, rfl, nofun⟩

/-- Timing parameters: the values of section 10.4 after power-on, and the first value outside each range. -/
theorem test_witness_SetAndReadTiming :
    State.reset.held = false ∧ State.reset.win.cmdState ≠ .busy ∧ State.reset.engine.mode = .config ∧
      (running State.reset).engine.mode = .run ∧
      (let p : Vector Word 6 := #v[15999, 4095, 7, 255, 1, 0]
       ¬ (p[1] = 0 ∨ 4095 < p[1].toNat ∨ p[2] = 0 ∨ 7 < p[2].toNat ∨ p[3] = 0 ∨ 255 < p[3].toNat ∨ p[4] = 0)) ∧
      4095 < (4096 : Word).toNat ∧ 7 < (8 : Word).toNat ∧ 255 < (256 : Word).toNat := by decide +kernel

theorem test_witness_ControlParamAndStampAccesses :
    State.reset.held = false ∧ (2 : BitVec 5).toNat < 3 ∧ 10 < (11 : BitVec 5).toNat ∧
      BitVec.ofNat 5 ((5 : Fin 6).val + 5) = 0x0A#5 ∧ BitVec.ofNat 5 ((7 : Fin 8).val + 0x0B) = 0x12#5 ∧
      0x1C ≤ (0x1C : BitVec 5).toNat ∧ (assertWrst State.reset).held = true := by decide +kernel

/-- WRST not asserted; asserted with no warm reset in progress, as after a PORST; PORST asserted. -/
theorem test_witness_PowerOnResetClearsEverything :
    State.reset.resets.wrst = false ∧
      (releasePorst (assertPorst (assertWrst State.reset))).resets = { porst := false, wrst := true, warm := false } ∧
      (assertPorst (assertWrst State.reset)).resets.porst = true := by decide +kernel

theorem test_witness_WarmResetAssertionKeepsRetainedSet :
    (assertWrst State.reset).resets.wrst = true ∧ State.reset.resets.wrst = false ∧
      (assertPorst State.reset).resets.porst = true ∧ (assertPorst State.reset).resets.wrst = false ∧
      (running (State.reset.withC 31 (cAt 0 .suspect))).held = false := by decide +kernel

/-- A warm reset in progress with records of an undisturbed and of a disturbed memory. -/
theorem test_witness_EndOfWarmResetChecksAndAdjusts :
    (let s := assertWrst (owning (State.reset.withC 31 (cAt 0 .suspect)))
     s.resets.wrst = true ∧ s.resets.warm = true ∧ s.resets.porst = false ∧ s.notices.entries.length ≤ 14 ∧
      s.engine.cTable[(31 : CSlot)] = some (cAt 0 .suspect)) ∧
      (let s := noticing 14 none (assertWrst State.reset)
       s.resets = { porst := false, wrst := true, warm := true } ∧ s.notices.entries.length ≤ 14) ∧
      (4 : BitVec 16).getLsbD (2 : MemId).val = true ∧ (0 : BitVec 16).getLsbD (2 : MemId).val = false := by
  decide +kernel

theorem test_witness_InboundFramesRoundTrip :
    (let f := InFrame.verdict 15 3
     4 < f.bytes.length ∧ (0 : Word) ≠ checkCode f.body) ∧
      (∀ t ∈ [(0x00 : Byte), 0x04, 0x81, 0xFF], t ≠ 0x01 ∧ t ≠ 0x02 ∧ t ≠ 0x03) := by decide +kernel

/-! ## States that meet the laws the step is to keep -/

/-- The part in RUN with one SUSPECT record, of a memory that port 1 owns, its job IN_FLIGHT on port 1, and one notice
queued. -/
def verifying : State :=
  noticing 1 none (running (owning (working [inFlight 15 (some 9) none]
    (port1 .ready (some 15) none [] (State.reset.withC 31 (cAt 0 .suspect))))))

theorem only_c (i : CSlot) (r : CRecord) (e : verifying.engine.cTable[i] = some r) :
    i = 31 ∧ r = cAt 0 .suspect := by
  by_cases h : i = 31
  · subst h
    exact ⟨rfl, (Option.some.inj e).symm⟩
  · have e' : (State.reset.withC 31 (cAt 0 .suspect)).engine.cTable[i] = some r := e
    have : (31 : CSlot).val ≠ i.val := fun e => h (Fin.ext e.symm)
    rw [show (State.reset.withC 31 (cAt 0 .suspect)).engine.cTable[i] = State.reset.engine.cTable[i] by
      simp [State.withC, show ¬ 31 = i.val from this], no_c i] at e'
    cases e'

theorem only_s (i : SSlot) (r : SRecord) (e : verifying.engine.sTable[i] = some r) : False := by
  cases (no_s i).symm.trans e

theorem only_job (j : Job) (h : j ∈ verifying.sched.jobs) : j = inFlight 15 (some 9) none :=
  List.mem_singleton.mp h

/-- The step from the state of the laws' witnesses is one clock period. -/
theorem test_witness_step_of_verifying : ∃ t, step verifying = .next t := ⟨_, rfl⟩

theorem no_handovers : ∀ ix : PortIx, verifying.sched.handovers[ix] = [] := by decide +kernel

theorem test_witness_JobsLawfulKeptAndStepNeverStops : JobsLawful verifying := by
  refine ⟨⟨by decide +kernel, ?_, ?_, List.nodup_nil, ?_, nofun⟩, by unfold UrgentFirst; decide +kernel, ⟨?_, ?_⟩, ?_,
    ⟨by decide +kernel, by decide +kernel, ?_⟩, by decide +kernel, ?_⟩
  · intro j h
    rw [only_job j h]
    exact ⟨cAt 0 .suspect, by decide +kernel, rfl, rfl⟩
  · intro i r e _ _
    exact ⟨inFlight 15 (some 9) none, List.mem_singleton.mpr rfl, (only_c i r e).1.symm⟩
  · intro slot
    refine ⟨nofun, fun ⟨j, h, _, a⟩ => ?_⟩
    rw [only_job j h] at a
    cases a
  · intro j h ix tag d c e
    rw [only_job j h] at e
    cases e
    decide +kernel
  · decide +kernel
  · intro j h j' h' ix _ _
    rw [only_job j h, only_job j' h']
  · intro ix id tag m a h
    rw [no_handovers ix] at h
    cases h
  · intro j h ix tag e
    rw [only_job j h] at e
    cases e

theorem test_witness_QueueLawsKept : QueuesBounded verifying ∧ NoticesLawful verifying := by
  refine ⟨⟨by decide +kernel, by decide, by decide⟩, ?_, ?_⟩
  · intro k h
    have : k = 0 := Nat.lt_one_iff.mp h
    subst this
    rfl
  · intro n hn e
    rw [List.mem_singleton.mp hn] at e
    cases e

theorem test_witness_RecordLawsKept : RecordsLawful verifying ∧ KeysUnique verifying ∧ PinnedCounted verifying := by
  refine ⟨⟨fun i r e => ?_, fun i r e => (only_s i r e).elim⟩, ⟨fun i j r r' e e' _ => ?_,
    fun i j r r' e => (only_s i r e).elim, fun i j r r' _ e => (only_s j r' e).elim⟩, ?_⟩
  · rw [(only_c i r e).2]
    unfold CRecord.lawful
    decide +kernel
  · rw [(only_c i r e).1, (only_c j r' e').1]
  · unfold PinnedCounted
    decide +kernel

theorem test_witness_RetainedAndPolicyLawsKept : RetainedLawful verifying ∧ PolicyLawful verifying := by
  refine ⟨⟨⟨fun i r e => ?_, fun i r e => (only_s i r e).elim, by decide +kernel, by decide +kernel, rfl⟩,
    fun i r e => ?_, fun i r e => (only_s i r e).elim⟩, ?_, ?_⟩
  · rw [(only_c i r e).2]; rfl
  · rw [(only_c i r e).2]; decide +kernel
  · unfold RegionsLawful Region.lawful; decide +kernel
  · unfold PolicyInRange; decide +kernel

theorem test_witness_WindowEscalationAndResetLawsKept :
    WindowLawful verifying ∧ EscalationLawful verifying ∧ HeldAtReset verifying :=
  ⟨⟨⟨nofun, fun h => absurd rfl h⟩, nofun⟩, ⟨nofun, nofun, nofun, nofun, nofun⟩, nofun, nofun⟩

end Sys2Proof.Tests
end

section
/-! SUPPORT. What one step can do to the retained set (tables, memories, regions, settings): the moves of the record
engine, and, for each command but the reset rows, that its effect is a chain of moves. The laws of the retained set are
then proved once for each move. -/

namespace Sys2Proof.Machine

/-! ## Moves -/

/-- Nothing of the retained set differs, nor the pinned count, which goes with the C-table. -/
structure SameRetained (s t : State) : Prop where
  cTable : t.engine.cTable = s.engine.cTable
  sTable : t.engine.sTable = s.engine.sTable
  pinnedCount : t.engine.pinnedCount = s.engine.pinnedCount
  memories : t.engine.memories = s.engine.memories
  ranges : t.engine.ranges = s.engine.ranges
  regions : t.engine.regions = s.engine.regions
  settings : t.win.settings = s.win.settings

/-- A C-record that takes the place of another for the same granule: it is pinned as the other was, and lawful where the
other was. -/
structure CRecord.Follows (r r' : CRecord) : Prop where
  key : r'.core.key = r.core.key
  pinned : r'.pinned = r.pinned
  lawful : r.lawful → r'.lawful

/-- An S-record that takes the place of another for the same granule, and is lawful where the other was. -/
structure SRecord.Follows (r r' : SRecord) : Prop where
  key : r'.core.key = r.core.key
  lawful : r.lawful → r'.lawful

/-- A region's policy values in their ranges (Table 2-3). -/
def RegionPolicy.inRange (p : RegionPolicy) : Prop := p.threshold ≠ 0 ∧ p.decayPeriod ≠ 0

/-- The settings in their ranges (Table 10-4). -/
def Settings.inRange (t : Settings) : Prop :=
  t.verifyTimeout ≠ 0 ∧ t.retryLimit ≠ 0 ∧ t.frameTimeout ≠ 0 ∧ t.ackWindow ≠ 0

/-- A memory entry's size in its range (Table 2-1). -/
def MemoryEntry.inRange (e : MemoryEntry) : Prop := 1 ≤ e.size ∧ e.size ≤ Config.maxGranules

/-- A region entry that keeps what the laws ask of the one before it. -/
structure Region.Follows (r r' : Region) : Prop where
  lawful : r.lawful → r'.lawful
  inRange : r.policy.inRange → r'.policy.inRange
  codeAgrees : r.codeAgrees = true → r'.codeAgrees = true

/-- A C-record taken out of the table: its slot free, the pinned count without it, the C-full flag armed (R18). -/
def State.freedC (s : State) (slot : CSlot) (r : CRecord) : State :=
  s.setEngine
    { s.engine with
      cTable := s.engine.cTable.set slot.val none
      pinnedCount := s.engine.pinnedCount - r.pinned.toNat
      cFullArmed := true }

/-- Both tables empty, the pinned count 0, the C-full flag armed (R31). -/
def State.emptied (s : State) : State :=
  s.setEngine
    { s.engine with
      cTable := Vector.replicate 32 none
      sTable := Vector.replicate 16 none
      pinnedCount := 0
      cFullArmed := true }

/-- One change of the retained set, with what the engine has checked before it makes it. -/
inductive Move : State → State → Prop where
  /-- The retained set stays. -/
  | same {s t : State} (h : SameRetained s t) : Move s t
  /-- A region's policy or counts change (R43, R45, R46, R48). -/
  | region {s : State} {ix : RegionIx} {r : Region} (h : s.engine.regions[ix].Follows r) : Move s (s.setRegion ix r)
  /-- A range is set (R48). -/
  | range {s : State} {ix : Fin 12} {r : RegionRange} (h : r.base ≤ r.limit) :
      Move s (s.setEngine { s.engine with ranges := s.engine.ranges.set ix.val r })
  /-- A memory that no record names is set (R36). -/
  | memory {s : State} {m : MemId} {e : MemoryEntry} (unused : ¬ MemoryNamed m s) (range : e.inRange)
      (code : e.codeAgrees = true) : Move s (s.setMemory m e)
  /-- The settings are set (R171). -/
  | settings {s : State} {w : Window} (range : w.settings.inRange) (code : w.settings.codeAgrees = true) :
      Move s (s.setWin w)
  /-- A C-record changes in its slot. -/
  | rewriteC {s : State} {slot : CSlot} {r r' : CRecord} (at_ : s.engine.cTable[slot] = some r) (h : r.Follows r') :
      Move s (s.putC slot r')
  /-- A C-record is pinned below the limit (R28). -/
  | pin {s : State} {slot : CSlot} {r : CRecord} (at_ : s.engine.cTable[slot] = some r) (h : r.pinned = false)
      (room : s.engine.pinnedCount < 24) :
      Move s ((s.putC slot { r with pinned := true }).setPinned (s.engine.pinnedCount + 1))
  /-- A C-record is unpinned (R29). -/
  | unpin {s : State} {slot : CSlot} {r : CRecord} (at_ : s.engine.cTable[slot] = some r) (h : r.pinned = true) :
      Move s ((s.putC slot { r with pinned := false }).setPinned (s.engine.pinnedCount - 1))
  /-- A C-record leaves its slot (R18, R27). -/
  | dropC {s : State} {slot : CSlot} {r : CRecord} (at_ : s.engine.cTable[slot] = some r) : Move s (s.freedC slot r)
  /-- A new C-record takes a slot that is free or holds an unpinned record (R15, R16). -/
  | fillC {s : State} {slot : CSlot} {r : CRecord} (room : ∀ q, s.engine.cTable[slot] = some q → q.pinned = false)
      (absent : KeyAbsent r.core.key s) (owned : s.engine.memories[r.core.key.mem].owner ≠ none)
      (lawful : r.lawful) (unpinned : r.pinned = false) : Move s (s.putC slot r)
  /-- An S-record changes in its slot. -/
  | rewriteS {s : State} {slot : SSlot} {r r' : SRecord} (at_ : s.engine.sTable[slot] = some r) (h : r.Follows r') :
      Move s (s.putS slot r')
  /-- An S-record leaves its slot (R27). -/
  | dropS {s : State} {slot : SSlot} : Move s (s.dropS slot)
  /-- A new S-record takes a slot (R22). -/
  | fillS {s : State} {slot : SSlot} {r : SRecord} (absent : KeyAbsent r.core.key s)
      (owned : s.engine.memories[r.core.key.mem].owner ≠ none) (lawful : r.lawful) : Move s (s.putS slot r)
  /-- A C-record's granule moves to the S-table (R20). -/
  | promote {s : State} {slot : CSlot} {free : SSlot} {r : CRecord} {r' : SRecord}
      (at_ : s.engine.cTable[slot] = some r) (key : r'.core.key = r.core.key)
      (absent : ∀ (i : SSlot) (q : SRecord), s.engine.sTable[i] = some q → q.core.key ≠ r.core.key)
      (lawful : r.lawful → r'.lawful) : Move s ((s.putS free r').freedC slot r)
  /-- The tables are cleared (R31). -/
  | clear {s : State} : Move s s.emptied

/-- Changes of the retained set, one after another. -/
abbrev Moves : State → State → Prop := Relation.ReflTransGen Move

/-- What every move keeps, a chain of moves keeps. -/
theorem Moves.keeps {P : State → Prop} (h : ∀ s t, Move s t → P s → P t) {s t : State} (m : Moves s t) (hs : P s) :
    P t := by
  induction m with
  | refl => exact hs
  | tail _ last ih => exact h _ _ last ih

theorem Move.moves {s t : State} (h : Move s t) : Moves s t := .single h

/-! ## What changes nothing of the retained set -/

theorem SameRetained.of_engine {s t : State} (he : t.engine = s.engine) (hw : t.win.settings = s.win.settings) :
    SameRetained s t := by
  constructor <;> simp only [he, hw]

theorem Moves.of_engine {s t : State} (he : t.engine = s.engine) (hw : t.win.settings = s.win.settings) :
    Moves s t := (Move.same (.of_engine he hw)).moves

/-- Moves followed by what leaves the engine and the settings alone. -/
theorem Moves.then_same {s t u : State} (m : Moves s t) (he : u.engine = t.engine)
    (hw : u.win.settings = t.win.settings) : Moves s u := m.trans (Moves.of_engine he hw)

theorem Moves.then_complete {s t : State} (m : Moves s t) (r : Result) (v : Option (Vector Word 8)) :
    Moves s (complete r v t) := m.then_same rfl rfl

theorem Moves.complete (r : Result) (v : Option (Vector Word 8)) (s : State) : Moves s (complete r v s) :=
  .of_engine rfl rfl

theorem Moves.then_post {s t : State} (m : Moves s t) (b : NoticeBody) (d : Bool) : Moves s (post b d t) :=
  m.then_same (by simp) (by simp)

theorem Moves.then_postSevere {s t : State} (m : Moves s t) (ref : RecRef) (core : RecordCore) (b : Bool) :
    Moves s (postSevere ref core b t) := m.then_same (by simp) (by simp)

/-- A happening that either reset input holds makes moves where its effect does. -/
theorem Moves.whenRunning {f : State → State} {s : State} (h : Moves s (f s)) : Moves s (whenRunning f s) := by
  unfold Machine.whenRunning
  split
  · exact .refl
  · exact h

/-- An owner's take makes moves where the command's own part does. -/
theorem Moves.takeByOwner {c : Command} {o : Owner} {body : State → State} {s : State} (h : Moves s (body s)) :
    Moves s (takeByOwner c o body s) := by
  refine .whenRunning ?_
  split
  · exact h
  · exact .refl

theorem Moves.takeByPort {c : Command} {body : PortIx → State → State} {s : State}
    (h : ∀ ix, Moves s (body ix s)) : Moves s (takeByPort c body s) := by
  refine .whenRunning ?_
  split
  · split
    · exact h _
    · exact .refl
  · exact .refl

end Sys2Proof.Machine
end

section
/-! SUPPORT. The record engine's operations as chains of moves: records and jobs, regions, reports, answers, and the
commands the engine owns. -/

namespace Sys2Proof.Machine

/-! ## Counts that saturate -/

theorem satInc_mono {w : Nat} {x y : BitVec w} (h : x ≤ y) : satInc x ≤ satInc y := by
  rw [BitVec.le_def] at *
  rw [satInc_toNat, satInc_toNat]
  omega

theorem one_le_satInc (x : Word) : 1 ≤ satInc x := by
  rw [BitVec.le_def, satInc_toNat]
  simp

theorem word_zero_le {w : Nat} (x : BitVec w) : 0 ≤ x := by
  rw [BitVec.le_def]
  simp

theorem toNat_ne_zero {w : Nat} {x : BitVec w} (h : x ≠ 0) : x.toNat ≠ 0 :=
  fun e => h (BitVec.eq_of_toNat_eq (by simpa using e))

/-! ## Kinds seen -/

/-- A correctable kind's bit is none of the severe kinds' (Table 0-2). -/
theorem Kind.bit_of_correctable {k : Kind} (h : k.severe = false) : k.bit &&& severeKinds = 0 :=
  match k, h with
  | .corr1, _ | .corrM, _ | .scrub, _ => rfl

theorem Kind.bit_of_severe {k : Kind} (h : k.severe = true) : k.bit &&& severeKinds ≠ 0 :=
  match k, h with
  | .uncorr, _ | .addrChk, _ => by decide

theorem kinds_or_correctable {x b : BitVec 5} (hx : x &&& severeKinds = 0) (hb : b &&& severeKinds = 0) :
    (x ||| b) &&& severeKinds = 0 := by
  rw [BitVec.and_or_distrib_right, hx, hb]
  rfl

theorem kinds_or_severe_left {x b : BitVec 5} (hx : x &&& severeKinds ≠ 0) : (x ||| b) &&& severeKinds ≠ 0 := by
  rw [BitVec.and_or_distrib_right]
  intro h
  exact hx (BitVec.or_eq_zero_iff.mp h).1

theorem kinds_or_severe_right {x b : BitVec 5} (hb : b &&& severeKinds ≠ 0) : (x ||| b) &&& severeKinds ≠ 0 := by
  rw [BitVec.and_or_distrib_right]
  intro h
  exact hb (BitVec.or_eq_zero_iff.mp h).2

/-! ## The report update -/

theorem RecordCore.withMaster_eq (c : RecordCore) (m : Option (BitVec 6)) :
    c.withMaster m = { c with
      firstMaster := m.elim c.firstMaster fun id => some (c.firstMaster.getD id), lastMaster := m.or c.lastMaster } := by
  cases m <;> rfl

@[simp] theorem RecordCore.updated_key (c : RecordCore) (r : Report) (t : Stamp) : (c.updated r t).key = c.key := by
  simp [RecordCore.updated, RecordCore.advanced, RecordCore.applied, withMaster_eq]
@[simp] theorem RecordCore.updated_region (c : RecordCore) (r : Report) (t : Stamp) :
    (c.updated r t).region = c.region := by
  simp [RecordCore.updated, RecordCore.advanced, RecordCore.applied, withMaster_eq]
@[simp] theorem RecordCore.updated_hits (c : RecordCore) (r : Report) (t : Stamp) :
    (c.updated r t).hits = satInc c.hits := rfl
@[simp] theorem RecordCore.updated_kinds (c : RecordCore) (r : Report) (t : Stamp) :
    (c.updated r t).kinds = c.kinds ||| r.kind.bit := rfl

/-- Advancing the version before or after the rest of the report update is the same (R11, R20). -/
theorem RecordCore.advanced_applied (c : RecordCore) (r : Report) (t : Stamp) :
    c.advanced.applied r t = c.updated r t := by
  simp [RecordCore.updated, RecordCore.advanced, RecordCore.applied, withMaster_eq]

/-! ## Records that follow one another -/

/-- A record as written, its code formed anew, has the key, the pin and the laws of the record to be written. -/
theorem CRecord.follows_of_recoded (r : CRecord) : ({ r with core := r.core.recoded } : CRecord).Follows r :=
  ⟨rfl, rfl, id⟩

theorem CRecord.Follows.suspect {r r' : CRecord} (h : r.Follows r') : r.Follows { r' with mode := .suspect } :=
  ⟨h.key, h.pinned, h.lawful⟩

/-- A correctable report keeps the laws of a C-record (R3, R4, R11). -/
theorem CRecord.follows_updated (r : CRecord) {rep : Report} (t : Stamp) (h : rep.kind.severe = false) :
    r.Follows (r.updated rep t) where
  key := RecordCore.updated_key _ _ _
  pinned := rfl
  lawful := fun ⟨_, hits, kinds⟩ =>
    ⟨one_le_satInc _, satInc_mono hits, kinds_or_correctable kinds (Kind.bit_of_correctable h)⟩

/-- Any report keeps the laws of an S-record (R3, R4, R11). -/
theorem SRecord.follows_updated (r : SRecord) (rep : Report) (t : Stamp) (m : SMode) :
    r.Follows { r with core := r.core.updated rep t, mode := m } where
  key := RecordCore.updated_key _ _ _
  lawful := fun ⟨_, kinds⟩ => ⟨one_le_satInc _, kinds_or_severe_left kinds⟩

theorem CRecord.follows_clean (r : CRecord) (limit : BitVec 4) : r.Follows (r.clean limit) :=
  ⟨rfl, rfl, fun ⟨hits, _, kinds⟩ => ⟨hits, word_zero_le _, kinds⟩⟩

theorem CRecord.follows_persists (r : CRecord) : r.Follows r.persists := ⟨rfl, rfl, id⟩

theorem CRecord.follows_exhausted (r : CRecord) : r.Follows r.exhausted :=
  ⟨rfl, rfl, fun ⟨hits, _, kinds⟩ => ⟨hits, word_zero_le _, kinds⟩⟩

/-- A record that a correctable report creates is lawful (R15). -/
theorem CRecord.ofReport_lawful (k : Key) (region : RegionIx) {rep : Report} (t : Stamp)
    (h : rep.kind.severe = false) : (CRecord.ofReport k region rep t).lawful :=
  ⟨show (1 : Word) ≤ 1 by decide, show (1 : Word) ≤ 1 by decide, Kind.bit_of_correctable h⟩

/-! ## Regions -/

/-- The burst laws of a region that is not muted: its counter is below a limit other than 0, and its decay deadline is
present exactly while the counter is above 0 (R43, R45). -/
theorem Region.lawful_of_unmuted {r : Region} (hm : r.counts.muted = false)
    (lt : r.counts.burst.toNat < r.policy.burstLimit.toNat)
    (dated : r.counts.decayDeadline ≠ none ↔ r.counts.burst ≠ 0) : r.lawful := by
  refine ⟨?_, ⟨fun h => ?_, fun ⟨_, e⟩ => ?_⟩, dated.trans ⟨fun h => ⟨h, hm⟩, And.left⟩⟩
  · rw [BitVec.le_def]
    omega
  · rw [hm] at h
    cases h
  · rw [e] at lt
    omega

/-- A region whose burst and mute state are cleared keeps the burst laws, whatever its policy (R48). -/
theorem Region.lawful_cleared {r : Region} (hm : r.counts.muted = false) (hb : r.counts.burst = 0)
    (hd : r.counts.decayDeadline = none) : r.lawful := by
  refine ⟨?_, ?_, ?_⟩
  · rw [hb]
    exact word_zero_le _
  · rw [hm, hb]
    exact ⟨nofun, fun ⟨ne, e⟩ => absurd e.symm ne⟩
  · rw [hd, hb]
    exact ⟨fun h => absurd rfl h, fun ⟨h, _⟩ => absurd rfl h⟩

theorem Region.follows_rewritten {r r' : Region} (h : r.policy.inRange → r'.policy.inRange) :
    r.Follows r'.rewritten :=
  ⟨fun _ => Region.lawful_cleared rfl rfl rfl, h, fun _ => rfl⟩

/-- A change of a region's counts that keeps its burst laws. -/
theorem Region.follows_counts {r : Region} {c : RegionCounts} (h : r.lawful → ({ r with counts := c } : Region).lawful) :
    r.Follows { r with counts := c } := ⟨h, id, id⟩

theorem Move.counts {s : State} {ix : RegionIx} {c : RegionCounts}
    (h : s.engine.regions[ix].lawful → ({ s.engine.regions[ix] with counts := c } : Region).lawful) :
    Move s (s.setCounts ix c) := .region (Region.follows_counts h)

theorem countUnrecorded_moves (ix : RegionIx) (s : State) : Moves s (countUnrecorded ix s) :=
  Move.moves (Move.counts (by exact id))

theorem countMuted_moves (ix : RegionIx) (s : State) : Moves s (countMuted ix s) :=
  Move.moves (Move.counts (by exact id))

theorem countAccepted_moves (ix : RegionIx) (s : State) : Moves s (countAccepted ix s) :=
  Move.moves (Move.counts (by exact id))

theorem countEviction_moves (ix : RegionIx) (s : State) : Moves s (countEviction ix s) :=
  Move.moves (Move.counts (by exact id))

/-- A region that is not muted has not reached a burst limit other than 0 (R43). -/
theorem Region.lawful.burst_lt {r : Region} (h : r.lawful) (hm : r.counts.muted = false)
    (hl : r.policy.burstLimit ≠ 0) : r.counts.burst.toNat < r.policy.burstLimit.toNat := by
  obtain ⟨le, muted, -⟩ := h
  rw [BitVec.le_def] at le
  have ne : r.counts.burst ≠ r.policy.burstLimit := fun e => by simp [muted.mpr ⟨hl, e⟩] at hm
  have : r.counts.burst.toNat ≠ r.policy.burstLimit.toNat := fun e => ne (BitVec.eq_of_toNat_eq e)
  omega

/-- A burst counter below its limit rises by one without wrapping (R43). -/
theorem burst_succ {b l : BitVec 8} (h : b.toNat < l.toNat) : (b + 1).toNat = b.toNat + 1 := by
  bv_omega

/-- Burst counting below the limit keeps a region's burst laws (R43). -/
theorem Region.lawful_burstRaised {r : Region} (h : r.lawful) (hm : r.counts.muted = false)
    (hl : r.policy.burstLimit ≠ 0) (t : Stamp) (p : Word)
    (ne : r.counts.burst + 1 ≠ r.policy.burstLimit) :
    ({ r with counts := r.counts.burstRaised t p } : Region).lawful := by
  have lt := h.burst_lt hm hl
  have succ := burst_succ lt
  have below : (r.counts.burst + 1).toNat ≠ r.policy.burstLimit.toNat := fun e => ne (BitVec.eq_of_toNat_eq e)
  have pos : r.counts.burst + 1 ≠ 0 := fun e => by
    rw [e] at succ
    exact absurd succ.symm (Nat.succ_ne_zero _)
  obtain ⟨-, -, dated⟩ := h
  refine Region.lawful_of_unmuted hm (show (r.counts.burst + 1).toNat < r.policy.burstLimit.toNat by omega) ?_
  refine ⟨fun _ => pos, fun _ => ?_⟩
  show (if r.counts.burst = 0 then _ else _) ≠ none
  split
  next => exact Option.some_ne_none _
  next counting => exact dated.mpr ⟨counting, hm⟩

/-- The region muted at its limit keeps its burst laws (R43). -/
theorem Region.lawful_mute {r : Region} (hl : r.policy.burstLimit ≠ 0) {c : RegionCounts}
    (e : c.burst = r.policy.burstLimit) : ({ r with counts := c.mute } : Region).lawful :=
  ⟨show c.burst ≤ _ by rw [e]; exact BitVec.le_refl _, ⟨fun _ => ⟨hl, e⟩, fun _ => rfl⟩,
    ⟨fun h => absurd rfl h, fun h => nomatch h.2⟩⟩

/-- Burst counting of a region that is not muted (R43). -/
theorem burstCount_moves {ix : RegionIx} {s : State} (hm : s.engine.regions[ix].counts.muted = false) :
    Moves s (burstCount ix s) := by
  unfold burstCount State.policy
  by_cases hl : s.engine.regions[ix].policy.burstLimit = 0
  · rw [if_pos hl]
  · rw [if_neg hl]
    dsimp only
    split
    next e => exact (Move.counts fun _ => Region.lawful_mute hl e).moves.then_post _ _
    next ne => exact (Move.counts fun h => Region.lawful_burstRaised h hm hl _ _ ne).moves

/-- The decay of a region's burst counter keeps its burst laws (R45). -/
theorem Region.lawful_decayed {r : Region} (h : r.lawful) (hd : r.counts.decayDeadline ≠ none) (t : Stamp) (p : Word) :
    ({ r with counts := r.counts.decayed t p } : Region).lawful := by
  obtain ⟨le, muted, dated⟩ := h
  obtain ⟨pos, hm⟩ := dated.mp hd
  rw [BitVec.le_def] at le
  have counting := toNat_ne_zero pos
  have pred : (r.counts.burst - 1).toNat = r.counts.burst.toNat - 1 := by bv_omega
  have fell : ({ r with counts := r.counts.decayed t p } : Region).counts.burst = r.counts.burst - 1 := if_neg pos
  refine Region.lawful_of_unmuted hm ?_ ?_
  · rw [fell]
    show _ < r.policy.burstLimit.toNat
    omega
  · show (if ({ r with counts := r.counts.decayed t p } : Region).counts.burst = 0 then none else some _) ≠ none ↔ _
    rw [fell]
    split
    next zero => exact ⟨fun h => absurd rfl h, fun h => absurd zero h⟩
    next ne => exact ⟨fun _ => ne, fun _ => Option.some_ne_none _⟩

theorem decay_moves (ix : RegionIx) (s : State) : Moves s (decay ix s) := by
  unfold decay
  dsimp only
  split
  next h =>
    refine (Move.counts fun lawful => Region.lawful_decayed lawful ?_ _ _).moves
    intro e
    rw [e] at h
    cases h
  next => exact .refl

/-! ## Records and jobs -/

/-- A job entered for a record that follows the one in its slot (R106). -/
theorem enterJob_moves {slot : CSlot} {r r' : CRecord} {s : State} (at_ : s.engine.cTable[slot] = some r)
    (h : r.Follows r') (cls : JobClass) : Moves s (enterJob slot r' cls s) :=
  (Move.rewriteC at_ h.suspect).moves.then_same rfl rfl

/-- The threshold check of a record that follows the one in its slot (R14). -/
theorem thresholdCheck_moves {slot : CSlot} {r r' : CRecord} {s : State} (at_ : s.engine.cTable[slot] = some r)
    (h : r.Follows r') : Moves s (thresholdCheck slot r' s) := by
  unfold thresholdCheck
  split
  · split
    · exact enterJob_moves at_ h .normal
    · exact .refl
  · split
    · exact enterJob_moves at_ h .normal
    · exact .refl
  · exact .refl
  · exact .refl

/-- The threshold check of the record just written into its slot. -/
theorem thresholdCheck_putC_moves (slot : CSlot) (r : CRecord) (s : State) :
    Moves (s.putC slot r) (thresholdCheck slot r (s.putC slot r)) :=
  thresholdCheck_moves (set_get_same _ _ _) r.follows_of_recoded

theorem updateC_moves {slot : CSlot} {r : CRecord} {rep : Report} {s : State}
    (at_ : s.engine.cTable[slot] = some r) (h : rep.kind.severe = false) : Moves s (updateC slot r rep s) :=
  (Move.rewriteC at_ (r.follows_updated _ h)).moves.trans (thresholdCheck_putC_moves _ _ _)

theorem createC_moves {slot : CSlot} {k : Key} {rep : Report} {s : State}
    (room : ∀ q, s.engine.cTable[slot] = some q → q.pinned = false) (absent : KeyAbsent k s)
    (owned : s.engine.memories[k.mem].owner ≠ none) (h : rep.kind.severe = false) (region : RegionIx) :
    Moves s (createC slot k region rep s) :=
  have fill : Move s (s.putC slot (CRecord.ofReport k region rep s.time.stamp)) :=
    .fillC room absent owned (CRecord.ofReport_lawful k region _ h) rfl
  fill.moves.trans (thresholdCheck_putC_moves _ _ _)

/-- A C-record removed with its job (R18, R121). -/
theorem removeC_eq (slot : CSlot) (r : CRecord) (s : State) : removeC slot r s = withdraw slot (s.freedC slot r) := rfl

theorem removeC_moves {slot : CSlot} {r : CRecord} {s : State} (at_ : s.engine.cTable[slot] = some r) :
    Moves s (removeC slot r s) :=
  (Move.dropC at_).moves.then_same (withdraw_engine _ _) (by rw [removeC_eq, withdraw_win])

/-! ## The victim -/

/-- What the eviction chooses stands in its slot and is evictable (R16). -/
theorem mem_evictables {s : State} {slot : CSlot} {r : CRecord} :
    (slot, r) ∈ s.evictables ↔ s.engine.cTable[slot] = some r ∧ r.evictable = true := by
  unfold State.evictables
  rw [List.mem_filterMap]
  constructor
  · rintro ⟨i, -, h⟩
    split at h
    next q e =>
      split at h
      next ev =>
        cases h
        exact ⟨e, ev⟩
      next => cases h
    next => cases h
  · rintro ⟨e, ev⟩
    exact ⟨slot, List.mem_finRange _, by simp [e, ev]⟩

theorem evictable_iff (r : CRecord) : r.evictable = true ↔ r.mode = .counting ∧ r.pinned = false := by
  unfold CRecord.evictable
  simp

theorem olderOf_mem {stamp : Stamp} {best : Option (CSlot × CRecord)} {c x : CSlot × CRecord}
    (h : olderOf stamp best c = some x) : x = c ∨ best = some x := by
  unfold olderOf at h
  split at h
  next => exact .inl (Option.some.inj h).symm
  next =>
    split at h
    · exact .inl (Option.some.inj h).symm
    · exact .inr h

theorem foldl_olderOf_mem {stamp : Stamp} {l : List (CSlot × CRecord)} {best : Option (CSlot × CRecord)}
    {x : CSlot × CRecord} (h : l.foldl (olderOf stamp) best = some x) : x ∈ l ∨ best = some x := by
  induction l generalizing best with
  | nil => exact .inr h
  | cons c l ih =>
    rcases ih h with mem | last
    · exact .inl (List.mem_cons_of_mem _ mem)
    · rcases olderOf_mem last with rfl | best
      · exact .inl List.mem_cons_self
      · exact .inr best

theorem victim_some {s : State} {slot : CSlot} {r : CRecord} (h : s.victim = some (slot, r)) :
    s.engine.cTable[slot] = some r ∧ r.mode = .counting ∧ r.pinned = false := by
  rcases foldl_olderOf_mem h with mem | none
  · obtain ⟨e, ev⟩ := mem_evictables.mp mem
    exact ⟨e, (evictable_iff r).mp ev⟩
  · cases none

/-! ## Reports -/

/-- A key that neither look-up finds is absent from both tables (R2). -/
theorem keyAbsent_of_find {s : State} {k : Key} (hs : s.findS k = none) (hc : s.findC k = none) : KeyAbsent k s :=
  ⟨not_held_of_findC hc, not_held_of_findS hs⟩

theorem unrecordedC_moves (k : Key) (region : RegionIx) (s : State) : Moves s (unrecordedC k region s) := by
  have m := countUnrecorded_moves region s
  unfold unrecordedC
  dsimp only
  split
  · have disarmed : Moves s ((countUnrecorded region s).setEngine
        { (countUnrecorded region s).engine with cFullArmed := false }) :=
      m.trans (Move.moves (.same (by constructor <;> rfl)))
    exact disarmed.then_post _ _
  · exact m

theorem recordC_moves {k : Key} {rep : Report} {s : State} (absent : KeyAbsent k s)
    (owned : s.engine.memories[k.mem].owner ≠ none) (h : rep.kind.severe = false) (region : RegionIx) :
    Moves s (recordC k region rep s) := by
  unfold recordC
  split
  next slot free =>
    have empty := freeC_some free
    exact createC_moves (fun q e => by rw [empty] at e; cases e) absent owned h region
  next =>
    split
    next slot r found =>
      obtain ⟨at_, -, unpinned⟩ := victim_some found
      have room : ∀ q, s.engine.cTable[slot] = some q → q.pinned = false := fun q e => by
        cases at_.symm.trans e
        exact unpinned
      exact (countEviction_moves r.core.region s).trans
        (createC_moves (s := countEviction r.core.region s) room absent owned h region)
    next => exact unrecordedC_moves k region s

/-- The table effect of a correctable report (R12, R13, R15 to R17). -/
theorem applyCorrectable_moves {k : Key} {rep : Report} {s : State} (owned : s.engine.memories[k.mem].owner ≠ none)
    (h : rep.kind.severe = false) (region : RegionIx) : Moves s (applyCorrectable k region rep s) := by
  unfold applyCorrectable
  split
  next slot r found =>
    exact (Move.rewriteS (findS_some found).1 (r.follows_updated rep _ r.mode)).moves
  next noS =>
    split
    next slot r found => exact updateC_moves (findC_some found).1 h
    next noC => exact recordC_moves (keyAbsent_of_find noS noC) owned h region

theorem updateS_moves {slot : SSlot} {r : SRecord} {s : State} (at_ : s.engine.sTable[slot] = some r) (rep : Report) :
    Moves s (updateS slot r rep s) := by
  have m := (Move.rewriteS at_ (r.follows_updated rep s.time.stamp .opened)).moves
  unfold updateS
  dsimp only
  split
  · exact m.then_postSevere _ _ _
  · exact m

/-- A promoted record is lawful where the C-record was: the report gives it a severe kind (R4, R20). -/
theorem SRecord.promoted_lawful {r : CRecord} {rep : Report} (t : Stamp) (h : rep.kind.severe = true) :
    r.lawful → ({ core := r.core.updated rep t, mode := .opened, origin := .promoted } : SRecord).lawful :=
  fun _ => ⟨one_le_satInc _, kinds_or_severe_right (Kind.bit_of_severe h)⟩

theorem promote_moves {slot : CSlot} {r : CRecord} {rep : Report} {s : State}
    (at_ : s.engine.cTable[slot] = some r)
    (absent : ∀ (i : SSlot) (q : SRecord), s.engine.sTable[i] = some q → q.core.key ≠ r.core.key)
    (h : rep.kind.severe = true) (free : SSlot) : Moves s (promote slot r free rep s) := by
  have move : Move s _ := .promote (free := free) at_ (RecordCore.updated_key _ rep s.time.stamp) absent
    (SRecord.promoted_lawful s.time.stamp h)
  unfold promote
  dsimp only
  rw [RecordCore.advanced_applied, removeC_eq]
  exact (move.moves.then_same (withdraw_engine _ _) (by rw [withdraw_win])).then_postSevere _ _ _

theorem createS_moves {slot : SSlot} {k : Key} {rep : Report} {s : State} (absent : KeyAbsent k s)
    (owned : s.engine.memories[k.mem].owner ≠ none) (h : rep.kind.severe = true) (region : RegionIx) :
    Moves s (createS slot k region rep s) :=
  have fill : Move s (s.putS slot
      { core := .ofReport k region rep s.time.stamp, mode := .opened, origin := .created }) :=
    .fillS absent owned ⟨show (1 : Word) ≤ 1 by decide, Kind.bit_of_severe h⟩
  fill.moves.then_postSevere _ _ _

theorem overflowS_moves (k : Key) (region : RegionIx) (s : State) : Moves s (overflowS k region s) :=
  ((countUnrecorded_moves region s).then_post (.sOverflow k region) false).then_same
    (takeCause_engine _ _ _ _) (by rw [overflowS, takeCause_win])

/-- The table effect of a severe report (R19 to R22). -/
theorem applySevere_moves {k : Key} {rep : Report} {s : State} (owned : s.engine.memories[k.mem].owner ≠ none)
    (h : rep.kind.severe = true) (region : RegionIx) : Moves s (applySevere k region rep s) := by
  unfold applySevere
  split
  next found => exact updateS_moves (findS_some found).1 rep
  next noS found _ =>
    obtain ⟨at_, rfl⟩ := findC_some found
    exact promote_moves at_ (not_held_of_findS noS) h _
  next noS noC _ => exact createS_moves (keyAbsent_of_find noS noC) owned h region
  next => exact overflowS_moves k region s

theorem applyReport_moves {k : Key} {s : State} (owned : s.engine.memories[k.mem].owner ≠ none) (region : RegionIx)
    (rep : Report) : Moves s (applyReport k region rep s) := by
  have accepted := countAccepted_moves region s
  unfold applyReport
  split
  next severe => exact accepted.trans (applySevere_moves (s := countAccepted region s) owned severe region)
  next mild =>
    split
    next => exact countMuted_moves region s
    next unmuted =>
      have burst := burstCount_moves (ix := region) (s := countAccepted region s)
        (by simpa [countAccepted] using unmuted)
      refine (accepted.trans burst).trans (applyCorrectable_moves ?_ (by simpa using mild) region)
      simpa [countAccepted] using owned

theorem judgeReport_moves (port : PortIx) (rep : Report) (s : State) : Moves s (judgeReport port rep s) := by
  unfold judgeReport
  split
  next ok =>
    refine applyReport_moves (fun none => ?_) _ _
    have unowned : s.engine.memories[rep.mem].owner = .none := none
    rw [ownershipOk, unowned] at ok
    cases ok
  next => exact countUnrecorded_moves _ _

theorem popReport_moves (ix : PortIx) (s : State) : Moves s (popReport ix s) :=
  Move.moves (.same (by constructor <;> rfl))

theorem takeReport_moves (s : State) : Moves s (takeReport s) := by
  unfold takeReport
  split
  · split
    · exact (popReport_moves _ s).trans (judgeReport_moves _ _ _)
    · exact .refl
  · exact .refl

/-! ## Answers and VERIFY_RECORD -/

/-- A record that follows the one in its slot is written there once its job has left the queue. -/
theorem removeJob_putC_moves {slot : CSlot} {r r' : CRecord} {s : State} (at_ : s.engine.cTable[slot] = some r)
    (h : r.Follows r') : Moves s ((removeJob slot s).putC slot r') :=
  have removed : Moves s (removeJob slot s) := .of_engine rfl rfl
  removed.trans (Move.rewriteC (s := removeJob slot s) at_ h).moves

theorem applyAnswer_moves {slot : CSlot} {r : CRecord} {s : State} (at_ : s.engine.cTable[slot] = some r) (j : Job)
    (a : Answer) : Moves s (applyAnswer slot j r a s) := by
  cases a with
  | clean =>
    have m := removeJob_putC_moves at_ (r.follows_clean (s.policy r.core.region).softLimit)
    show Moves s (applyClean slot r s)
    unfold applyClean
    dsimp only
    split
    · exact m.then_post _ _
    · exact m
  | persists => exact (removeJob_putC_moves at_ r.follows_persists).then_post _ _
  | failed =>
    show Moves s (applyFailed slot j r s)
    unfold applyFailed
    split
    · exact .of_engine rfl rfl
    · exact (removeJob_putC_moves at_ r.follows_exhausted).then_post _ _

theorem answeredAt_some {slot : CSlot} {s : State} {j : Job} {r : CRecord} {a : Answer}
    (h : answeredAt slot s = some (j, r, a)) : s.engine.cTable[slot] = some r := by
  unfold answeredAt at h
  split at h
  next at_ =>
    split at h
    · cases h
      exact at_
    · cases h
  next => cases h

theorem execTakeAnsweredJob_moves {s t : State} (h : execTakeAnsweredJob s = .next t) : Moves s t := by
  unfold execTakeAnsweredJob at h
  split at h
  · cases h
    exact .refl
  · split at h
    · cases h
      exact .refl
    · split at h
      next found =>
        cases h
        exact applyAnswer_moves (answeredAt_some found) _ _
      next => cases h

theorem verifySuspect_moves {slot : CSlot} {s t : State} (h : verifySuspect slot s = .next t) : Moves s t := by
  unfold verifySuspect at h
  split at h
  · cases h
  · split at h
    · cases h
      exact .of_engine rfl rfl
    · cases h
      exact .complete _ _ _

theorem verifyC_moves {slot : CSlot} {r : CRecord} {s t : State} (at_ : s.engine.cTable[slot] = some r)
    (h : verifyC slot r s = .next t) : Moves s t := by
  unfold verifyC at h
  split at h
  · exact verifySuspect_moves h
  all_goals
    split at h
    · cases h
      have advanced : r.Follows { r with core := r.core.advanced } := ⟨rfl, rfl, id⟩
      exact (enterJob_moves at_ advanced .urgent).then_complete _ _
    · cases h
      exact .complete _ _ _

theorem execVerifyRecord_moves {s t : State} (h : execVerifyRecord s = .next t) : Moves s t := by
  unfold execVerifyRecord verifyRecord at h
  split at h
  · split at h
    · split at h
      next at_ => exact verifyC_moves at_ h
      next =>
        cases h
        exact .complete _ _ _
    · cases h
      exact .complete _ _ _
  · cases h
    exact .refl

/-! ## The record commands -/

theorem onVersionC_moves {slot : CSlot} {v : Byte} {own : CRecord → State → State} {s : State}
    (h : ∀ r, s.engine.cTable[slot] = some r → Moves s (own r s)) : Moves s (onVersionC slot v own s) := by
  unfold onVersionC
  split
  · exact .complete _ _ _
  next r at_ =>
    split
    · exact h r at_
    · exact .complete _ _ _

theorem onVersionS_moves {slot : SSlot} {v : Byte} {own : SRecord → State → State} {s : State}
    (h : ∀ r, s.engine.sTable[slot] = some r → Moves s (own r s)) : Moves s (onVersionS slot v own s) := by
  unfold onVersionS
  split
  · exact .complete _ _ _
  next r at_ =>
    split
    · exact h r at_
    · exact .complete _ _ _

theorem retireRecord_moves (s : State) : Moves s (retireRecord s) := by
  unfold retireRecord
  split
  · exact onVersionC_moves fun _ at_ => (removeC_moves at_).then_complete _ _
  · exact onVersionS_moves fun _ _ => Move.dropS.moves.then_complete _ _
  · exact .complete _ _ _

theorem pinRecord_moves (s : State) : Moves s (pinRecord s) := by
  unfold pinRecord
  split
  · refine onVersionC_moves fun r at_ => ?_
    unfold pinOwn
    split
    · exact .complete _ _ _
    next unpinned =>
      split
      · exact .complete _ _ _
      next room =>
        have below : s.engine.pinnedCount < 24 := Nat.lt_of_not_le room
        exact (Move.pin at_ (Bool.eq_false_iff.mpr unpinned) below).moves.then_complete _ _
  · exact .complete _ _ _

theorem unpinRecord_moves (s : State) : Moves s (unpinRecord s) := by
  unfold unpinRecord
  split
  · refine onVersionC_moves fun r at_ => ?_
    unfold unpinOwn
    split
    next pinned => exact (Move.unpin at_ pinned).moves.then_complete _ _
    next => exact .complete _ _ _
  · exact .complete _ _ _

theorem settleRecord_moves (s : State) : Moves s (settleRecord s) := by
  unfold settleRecord
  split
  · refine onVersionS_moves fun r at_ => ?_
    unfold settleOwn
    split
    · exact .complete _ _ _
    · have settled : r.Follows { r with core := r.core.advanced, mode := .settled } := ⟨rfl, id⟩
      exact (Move.rewriteS at_ settled).moves.then_complete _ _
  · exact .complete _ _ _

/-- Withdrawals change nothing of the engine, nor of the window. -/
theorem foldl_withdraw_engine (slots : List CSlot) (s : State) :
    (slots.foldl (fun s slot => withdraw slot s) s).engine = s.engine ∧
      (slots.foldl (fun s slot => withdraw slot s) s).win = s.win := by
  induction slots generalizing s with
  | nil => exact ⟨rfl, rfl⟩
  | cons slot slots ih =>
    obtain ⟨he, hw⟩ := ih (withdraw slot s)
    exact ⟨he.trans (withdraw_engine _ _), hw.trans (withdraw_win _ _)⟩

theorem withdrawAll_moves (s : State) : Moves s (withdrawAll s) := by
  obtain ⟨he, hw⟩ := foldl_withdraw_engine (s.sched.jobs.map Job.slot) s
  exact .of_engine he (congrArg Window.settings hw)

theorem clearTables_moves (s : State) : Moves s (clearTables s) := by
  unfold clearTables
  split
  · exact .complete _ _ _
  · exact Moves.then_complete ((withdrawAll_moves s).trans Move.clear.moves) _ _

/-! ## Policy commands -/

theorem setMode_moves (s : State) (m : EngineMode) : Moves s (s.setMode m) :=
  Move.moves (.same (by constructor <;> rfl))

theorem enterConfig_moves (s : State) : Moves s (enterConfig s) := by
  unfold enterConfig
  split
  · exact (setMode_moves s _).then_complete _ _
  · exact .complete _ _ _

theorem leaveConfig_moves (s : State) : Moves s (leaveConfig s) := by
  unfold leaveConfig
  split
  · exact (setMode_moves s _).then_complete _ _
  · exact .complete _ _ _

theorem memoryParams_some {s : State} {m : MemId} {e : MemoryEntry} (h : memoryParams s = some (m, e)) :
    e.inRange ∧ e.codeAgrees = true := by
  unfold memoryParams at h
  simp only [Option.bind_eq_bind, Option.bind_eq_some_iff, Option.some.injEq, Prod.mk.injEq] at h
  obtain ⟨_, -, _, -, _, -, size, hsize, -, rfl⟩ := h
  unfold sizeOf at hsize
  dsimp only at hsize
  split at hsize
  next range =>
    cases hsize
    exact ⟨range, rfl⟩
  next => cases hsize

/-- A memory that the check finds unused is named by no record and by no job (R36). -/
theorem memoryInUse_iff (m : MemId) (s : State) : memoryInUse m s = true ↔ MemoryNamed m s := by
  have c : s.engine.cRecords.any (fun r => r.core.key.mem == m) = true ↔
      ∃ (i : CSlot) (r : CRecord), s.engine.cTable[i] = some r ∧ r.core.key.mem = m := by
    simp only [Engine.cRecords, List.any_eq_true, List.mem_filterMap, id, Vector.mem_toList_iff, beq_iff_eq]
    constructor
    · rintro ⟨r, ⟨_, mem, rfl⟩, e⟩
      obtain ⟨i, hi, at_⟩ := Vector.mem_iff_getElem.mp mem
      exact ⟨⟨i, hi⟩, r, at_, e⟩
    · rintro ⟨i, r, at_, e⟩
      exact ⟨r, ⟨_, Vector.mem_of_getElem at_, rfl⟩, e⟩
  have d : s.engine.sRecords.any (fun r => r.core.key.mem == m) = true ↔
      ∃ (i : SSlot) (r : SRecord), s.engine.sTable[i] = some r ∧ r.core.key.mem = m := by
    simp only [Engine.sRecords, List.any_eq_true, List.mem_filterMap, id, Vector.mem_toList_iff, beq_iff_eq]
    constructor
    · rintro ⟨r, ⟨_, mem, rfl⟩, e⟩
      obtain ⟨i, hi, at_⟩ := Vector.mem_iff_getElem.mp mem
      exact ⟨⟨i, hi⟩, r, at_, e⟩
    · rintro ⟨i, r, at_, e⟩
      exact ⟨r, ⟨_, Vector.mem_of_getElem at_, rfl⟩, e⟩
  unfold memoryInUse MemoryNamed
  rw [Bool.or_eq_true, Bool.or_eq_true, c, d, or_assoc]
  simp

theorem setMemory_moves (s : State) : Moves s (setMemory s) := by
  unfold setMemory
  split
  · exact .complete _ _ _
  · split
    · exact .complete _ _ _
    next params =>
      split
      · exact .complete _ _ _
      next unused =>
        obtain ⟨range, code⟩ := memoryParams_some params
        exact (Move.memory (mt (memoryInUse_iff _ _).mpr unused) range code).moves.then_complete _ _

theorem rangeParams_some {s : State} {r : RegionRange} (h : rangeParams s = some r) : r.base ≤ r.limit := by
  unfold rangeParams at h
  simp only [Option.bind_eq_bind, Option.bind_eq_some_iff] at h
  obtain ⟨_, -, _, -, h⟩ := h
  split at h
  next le =>
    cases h
    exact le
  next => cases h

theorem policyParams_some {s : State} {p : RegionPolicy} (h : policyParams s = some p) : p.inRange := by
  unfold policyParams at h
  simp only [Option.bind_eq_bind, Option.bind_eq_some_iff] at h
  obtain ⟨_, -, h⟩ := h
  split at h
  next range =>
    obtain ⟨threshold, -, decay⟩ := range
    cases h
    exact ⟨threshold, decay⟩
  next => cases h

theorem writeRange_moves {r : RegionRange} (h : r.base ≤ r.limit) (ix : Fin 12) (s : State) :
    Moves s (writeRange ix r s) :=
  (Move.range h).moves.trans (Move.region (Region.follows_rewritten id)).moves

theorem writePolicy_moves {p : RegionPolicy} (h : p.inRange) (ix : RegionIx) (s : State) :
    Moves s (writePolicy ix p s) :=
  (Move.region (Region.follows_rewritten fun _ => h)).moves

theorem setRegion_moves (s : State) : Moves s (setRegion s) := by
  unfold setRegion
  split
  · exact .complete _ _ _
  · split
    · unfold setRange
      split
      · exact .complete _ _ _
      next params =>
        split
        · exact (writeRange_moves (rangeParams_some params) _ _).then_complete _ _
        · exact .complete _ _ _
    · unfold setPolicy
      split
      · exact .complete _ _ _
      next params => exact (writePolicy_moves (policyParams_some params) _ _).then_complete _ _
    · exact .complete _ _ _

theorem unmuteRegion_moves (s : State) : Moves s (unmuteRegion s) := by
  unfold unmuteRegion
  split
  · exact .complete _ _ _
  · dsimp only
    split
    · exact (Move.counts fun _ => Region.lawful_cleared rfl rfl rfl).moves.then_complete _ _
    · exact .complete _ _ _

end Sys2Proof.Machine
end

section
/-! SUPPORT. Every command but the rows of the reset inputs, and a clock period, as a chain of moves. The blocks other
than the record engine leave the retained set as it is, but for SET_TIMING. -/

namespace Sys2Proof.Machine

/-! ## Read commands of the engine -/

theorem readMemory_moves (s : State) : Moves s (readMemory s) := by
  unfold readMemory
  split <;> exact .complete _ _ _

theorem readRegion_moves (s : State) : Moves s (readRegion s) := by
  unfold readRegion
  split
  · split <;> exact .complete _ _ _
  all_goals exact .complete _ _ _

theorem fetchRecord_moves (s : State) : Moves s (fetchRecord s) := by
  unfold fetchRecord
  dsimp only
  split
  · exact .complete _ _ _
  all_goals split <;> exact .complete _ _ _

theorem findAddress_moves (m : MemId) (addr : BitVec 32) (s : State) : Moves s (findAddress m addr s) := by
  unfold findAddress
  dsimp only
  split <;> exact .complete _ _ _

theorem findRecord_moves (s : State) : Moves s (findRecord s) := by
  unfold findRecord
  dsimp only
  split
  · exact .complete _ _ _
  · split
    · exact findAddress_moves _ _ _
    · exact .complete _ _ _

/-! ## Notices and escalation -/

theorem takeCause_moves (kind : CauseKind) (seq : Option Word) (key : Option Key) (s : State) :
    Moves s (takeCause kind seq key s) := .of_engine (by simp) (by simp)

theorem postLost_moves (s : State) : Moves s (postLost s) := by
  unfold postLost
  split
  · exact .refl
  · exact .of_engine rfl rfl

theorem ackNotice_moves (s : State) : Moves s (ackNotice s) := by
  unfold ackNotice
  split
  · exact .complete _ _ _
  next n rest _ =>
    split
    · have removed : Moves s (s.setNotices { s.notices with entries := rest }) := .of_engine rfl rfl
      exact Moves.then_complete (removed.trans (postLost_moves _)) _ _
    · exact .complete _ _ _

theorem reachNotice_moves (seq : Word) (s : State) : Moves s (reachNotice seq s) := by
  unfold reachNotice
  split
  · split
    · have expired : Moves s (expireNotice seq s) := .of_engine rfl rfl
      exact expired.trans (takeCause_moves _ _ _ _)
    · exact .refl
  · exact .refl

theorem reachHold_moves (s : State) : Moves s (reachHold s) := by
  unfold reachHold
  split
  · exact takeCause_moves _ _ _ _
  · exact .refl

theorem clearFault_moves (s : State) : Moves s (clearFault s) := by
  unfold clearFault
  split
  · exact .complete _ _ _
  · exact .complete _ _ _
  · split
    · exact .complete _ _ _
    · exact .of_engine rfl rfl

theorem readReaction_moves (s : State) : Moves s (readReaction s) := by
  unfold readReaction
  split
  · exact .complete _ _ _
  · split <;> exact .complete _ _ _

/-! ## Ports -/

theorem setPort_moves (s : State) (ix : PortIx) (p : Port) : Moves s (s.setPort ix p) := .of_engine rfl rfl

theorem endRequest_moves (ix : PortIx) (s : State) : Moves s (endRequest ix s) := .of_engine (by simp) (by simp)

theorem discardFrame_moves (ix : PortIx) (s : State) : Moves s (discardFrame ix s) := .of_engine (by simp) (by simp)

theorem sendFrame_moves (ix : PortIx) (f : OutFrame) (s : State) : Moves s (sendFrame ix f s) := setPort_moves _ _ _

theorem takeHello_moves (ix : PortIx) (next : Byte) (reporter : Word) (s : State) :
    Moves s (takeHello ix next reporter s) := by
  unfold takeHello
  split
  · exact .refl
  · exact (setPort_moves _ _ _).trans (endRequest_moves _ _)
  · exact (setPort_moves _ _ _).trans (endRequest_moves _ _)
  · exact sendFrame_moves _ _ _

theorem admitReport_moves (ix : PortIx) (f : ReportFrame) (s : State) : Moves s (admitReport ix f s) := by
  unfold admitReport
  split
  · exact sendFrame_moves _ _ _
  · split
    · exact sendFrame_moves _ _ _
    · split
      · exact sendFrame_moves _ _ _
      · exact setPort_moves _ _ _

theorem judgeFrame_moves (ix : PortIx) (f : ReportFrame) (s : State) : Moves s (judgeFrame ix f s) := by
  unfold judgeFrame
  dsimp only
  split
  · exact sendFrame_moves _ _ _
  · split
    · exact setPort_moves _ _ _
    · exact admitReport_moves _ _ _

theorem takeReportFrame_moves (ix : PortIx) (f : ReportFrame) (s : State) : Moves s (takeReportFrame ix f s) := by
  unfold takeReportFrame
  split
  · exact .refl
  · exact sendFrame_moves _ _ _
  · exact judgeFrame_moves _ _ _
  · exact sendFrame_moves _ _ _

theorem verdictNotification_moves (ix : PortIx) (tag : Tag) (a : Answer) (s : State) :
    Moves s (verdictNotification ix tag a s) := by
  unfold verdictNotification
  split
  · exact .of_engine rfl rfl
  · exact .refl

theorem matchVerdict_moves (ix : PortIx) (tag result : Byte) (s : State) : Moves s (matchVerdict ix tag result s) := by
  unfold matchVerdict
  split
  · split
    · exact (setPort_moves _ _ _).trans (verdictNotification_moves _ _ _ _)
    · exact setPort_moves _ _ _
  · exact setPort_moves _ _ _

theorem takeVerdict_moves (ix : PortIx) (tag result : Byte) (s : State) : Moves s (takeVerdict ix tag result s) := by
  unfold takeVerdict
  split
  · exact matchVerdict_moves _ _ _ _
  all_goals exact .refl

theorem completeGood_moves (ix : PortIx) (f : InFrame) (s : State) : Moves s (completeGood ix f s) := by
  unfold completeGood
  split
  · have ended : Moves s (endReception ix s) := setPort_moves _ _ _
    refine ended.trans ?_
    cases f with
    | hello next reporter => exact takeHello_moves _ _ _ _
    | report frame => exact takeReportFrame_moves _ _ _
    | verdict tag result => exact takeVerdict_moves _ _ _ _
  · exact .refl

theorem completeBytes_moves (ix : PortIx) (bytes : List Byte) (s : State) : Moves s (completeBytes ix bytes s) := by
  unfold completeBytes
  split
  · exact completeGood_moves _ _ _
  · split
    · exact discardFrame_moves _ _
    · exact .refl
  · exact .refl

theorem lowPeriodOf_moves (ix : PortIx) (high low : Clocks) (s : State) : Moves s (lowPeriodOf ix high low s) := by
  unfold lowPeriodOf
  split
  · exact .of_engine (by simp) (by simp)
  · split
    · exact .of_engine (by simp) (by simp)
    · exact .refl

theorem lowPeriod_moves (ix : PortIx) (high low : Clocks) (s : State) : Moves s (lowPeriod ix high low s) := by
  unfold lowPeriod
  split
  · exact .refl
  all_goals exact lowPeriodOf_moves _ _ _ _

theorem timeoutFrame_moves (ix : PortIx) (s : State) : Moves s (timeoutFrame ix s) := by
  unfold timeoutFrame
  split
  · exact discardFrame_moves _ _
  · exact .refl

theorem setPortMode_moves (ix : PortIx) (enable : Bool) (s : State) : Moves s (setPortMode ix enable s) := by
  unfold setPortMode
  split
  · exact setPort_moves _ _ _
  · exact .refl
  · exact .refl
  · exact (setPort_moves _ _ _).trans (endRequest_moves _ _)

theorem setPortCommand_moves (ix : PortIx) (s : State) : Moves s (setPort ix s) :=
  Moves.then_complete ((setPort_moves s ix _).trans (setPortMode_moves _ _ _)) _ _

theorem restartPort_moves (ix : PortIx) (s : State) : Moves s (restartPort ix s) := by
  unfold restartPort
  split
  · exact .of_engine rfl rfl
  all_goals exact .complete _ _ _

theorem flushPort_moves (ix : PortIx) (s : State) : Moves s (flushPort ix s) := .of_engine rfl rfl

theorem readPort_moves (ix : PortIx) (s : State) : Moves s (readPort ix s) := .complete _ _ _

/-! ## The verify scheduler -/

theorem dispatchTo_moves (ix : PortIx) (s : State) : Moves s (dispatchTo ix s) := by
  unfold dispatchTo
  split
  · exact .of_engine rfl rfl
  · exact .refl

theorem cancelJob_moves (j : Job) (reason : CancelReason) (s : State) : Moves s (cancelJob j reason s) := by
  unfold cancelJob
  split
  · exact .of_engine rfl rfl
  · exact .refl

theorem preemptOn_moves (ix : PortIx) (s : State) : Moves s (preemptOn ix s) := by
  unfold preemptOn
  split
  · exact cancelJob_moves _ _ _
  · exact .refl

theorem timeoutJob_moves (slot : CSlot) (s : State) : Moves s (timeoutJob slot s) := by
  unfold timeoutJob
  split
  · split
    · exact cancelJob_moves _ _ _
    · exact .refl
  · exact .refl

theorem popHandover_moves (ix : PortIx) (s : State) : Moves s (popHandover ix s) := .of_engine rfl rfl

theorem flyJob_moves (id : Nat) (ix : PortIx) (tag : Tag) (s : State) : Moves s (flyJob id ix tag s) := by
  unfold flyJob
  split
  · exact .of_engine rfl rfl
  · exact .refl

theorem refuseOffer_moves (id : Nat) (ix : PortIx) (tag : Tag) (s : State) : Moves s (refuseOffer id ix tag s) := by
  unfold refuseOffer
  split
  · exact .of_engine rfl rfl
  · exact .refl

theorem takeDispatch_moves (ix : PortIx) (s : State) : Moves s (takeDispatch ix s) := by
  unfold takeDispatch
  split
  · refine (popHandover_moves ix s).trans ?_
    unfold takeDispatchOf
    dsimp only
    split
    · exact (setPort_moves _ _ _).trans (flyJob_moves _ _ _ _)
    · exact refuseOffer_moves _ _ _ _
  · exact .refl

theorem cancelOutcome_moves (ix : PortIx) (tag : Tag) (s : State) : Moves s (cancelOutcome ix tag s) := by
  unfold cancelOutcome
  split
  · exact .refl
  · split
    · exact .of_engine rfl rfl
    · exact .of_engine rfl rfl
    · exact .of_engine rfl rfl
    · exact .refl
    · exact .refl

theorem takeCancel_moves (ix : PortIx) (s : State) : Moves s (takeCancel ix s) := by
  unfold takeCancel
  split
  · refine (popHandover_moves ix s).trans ?_
    unfold takeCancelOf
    dsimp only
    split
    · exact (setPort_moves _ _ _).trans (cancelOutcome_moves _ _ _)
    · exact .refl
  · exact .refl

/-! ## The host window -/

theorem word_ne_zero_of_low {w : Word} {n : Nat} (lo : 1 ≤ w.toNat) (hi : w.toNat < 2 ^ n) :
    w.extractLsb' 0 n ≠ 0 := by
  intro e
  have := congrArg BitVec.toNat e
  simp only [BitVec.extractLsb'_toNat, Nat.shiftRight_zero, Nat.mod_eq_of_lt hi] at this
  simp at this
  omega

theorem timingParams_some {s : State} {t : Settings} (h : timingParams s = some t) :
    t.inRange ∧ t.codeAgrees = true := by
  unfold timingParams at h
  split at h
  next range =>
    obtain ⟨v1, v2, r1, r2, f1, f2, ack⟩ := range
    cases h
    exact ⟨⟨word_ne_zero_of_low v1 (by omega), word_ne_zero_of_low r1 (by omega),
      word_ne_zero_of_low f1 (by omega), ack⟩, rfl⟩
  next => cases h

theorem setTiming_moves (s : State) : Moves s (setTiming s) := by
  unfold setTiming
  split
  · exact .complete _ _ _
  · split
    · exact .complete _ _ _
    next t params =>
      obtain ⟨range, code⟩ := timingParams_some params
      have set : Move s (s.setWin { s.win with settings := t }) := .settings range code
      exact set.moves.then_complete _ _

theorem makePending_moves (c : Command) (o : Owner) (s : State) : Moves s (makePending c o s) := .of_engine rfl rfl

theorem acceptCommand_moves (c : Command) (s : State) : Moves s (acceptCommand c s) := by
  unfold acceptCommand
  split
  · split
    · exact makePending_moves _ _ _
    · exact .complete _ _ _
  · split
    · exact setTiming_moves s
    · exact .complete _ _ _
    · exact makePending_moves _ _ _

theorem writeCommand_moves (code : Word) (s : State) : Moves s (writeCommand code s) := by
  have accepted : Moves s (acceptCode code s) := .of_engine rfl rfl
  unfold writeCommand
  split
  · exact .of_engine rfl rfl
  all_goals
    split
    · exact accepted.trans (acceptCommand_moves _ _)
    · exact accepted.then_complete _ _

theorem writeControl_moves (word : Word) (s : State) : Moves s (writeControl word s) := .of_engine rfl rfl

theorem writeRegister_moves (addr : BitVec 5) (word : Word) (s : State) : Moves s (writeRegister addr word s) := by
  unfold writeRegister
  split
  · exact writeControl_moves _ _
  · split
    · exact writeCommand_moves _ _
    · split
      · exact .of_engine rfl rfl
      · exact .refl

theorem stampLoRead_moves (s : State) :
    Moves s (if s.held then s.setWin { s.win with readData := 0 } else readStampLo s) := by
  split <;> exact .of_engine rfl rfl

/-! ## One command, one clock period -/

/-- The rows of the reset inputs. -/
def isResetRow : Instr → Bool
  | .porstAssert | .porstRelease | .wrstAssert | .endOfWarmReset _ => true
  | _ => false

/-- Every command but the rows of the reset inputs changes the retained set by moves only. -/
theorem exec_moves {i : Instr} {s t : State} (hi : isResetRow i = false) (h : exec i s = .next t) : Moves s t := by
  cases i
  case takeAnsweredJob => exact execTakeAnsweredJob_moves h
  case verifyRecord => exact execVerifyRecord_moves h
  case porstAssert => cases hi
  case porstRelease => cases hi
  case wrstAssert => cases hi
  case endOfWarmReset => cases hi
  all_goals cases h
  case takeReport => exact (takeReport_moves s).whenRunning
  case enterConfig => exact (enterConfig_moves s).takeByOwner
  case leaveConfig => exact (leaveConfig_moves s).takeByOwner
  case setMemory => exact (setMemory_moves s).takeByOwner
  case readMemory => exact (readMemory_moves s).takeByOwner
  case setRegion => exact (setRegion_moves s).takeByOwner
  case readRegion => exact (readRegion_moves s).takeByOwner
  case unmuteRegion => exact (unmuteRegion_moves s).takeByOwner
  case fetchRecord => exact (fetchRecord_moves s).takeByOwner
  case findRecord => exact (findRecord_moves s).takeByOwner
  case retireRecord => exact (retireRecord_moves s).takeByOwner
  case pinRecord => exact (pinRecord_moves s).takeByOwner
  case unpinRecord => exact (unpinRecord_moves s).takeByOwner
  case settleRecord => exact (settleRecord_moves s).takeByOwner
  case clearTables => exact (clearTables_moves s).takeByOwner
  case setPort => exact .takeByPort fun ix => setPortCommand_moves ix s
  case restartPort => exact .takeByPort fun ix => restartPort_moves ix s
  case flushPort => exact .takeByPort fun ix => flushPort_moves ix s
  case readPort => exact .takeByPort fun ix => readPort_moves ix s
  case ackNotice => exact (ackNotice_moves s).takeByOwner
  case clearFault => exact (clearFault_moves s).takeByOwner
  case readReaction => exact (readReaction_moves s).takeByOwner
  case setTiming => exact (writeCommand_moves _ s).whenRunning
  case readTiming => exact (writeCommand_moves _ s).whenRunning
  case unknownCommand => exact (writeCommand_moves _ s).whenRunning
  case commandOverrun => exact (writeCommand_moves _ s).whenRunning
  case commandAccepted => exact (writeCommand_moves _ s).whenRunning
  case setInterruptEnables => exact (writeControl_moves _ s).whenRunning
  case markSeen => exact (writeControl_moves _ s).whenRunning
  case stampLoRead => exact stampLoRead_moves s
  case registerWrite => exact (writeRegister_moves _ _ s).whenRunning
  case startDelimiter => exact (lowPeriod_moves _ _ _ s).whenRunning
  case longLowPeriod => exact (lowPeriod_moves _ _ _ s).whenRunning
  case hello => exact (completeGood_moves _ _ s).whenRunning
  case report => exact (completeGood_moves _ _ s).whenRunning
  case verdict => exact (completeGood_moves _ _ s).whenRunning
  case badFrame => exact (completeBytes_moves _ _ s).whenRunning
  case frameTimeout => exact (timeoutFrame_moves _ s).whenRunning
  case outboundFrameSent => exact (setPort_moves _ _ _).whenRunning
  case dispatch => exact (dispatchTo_moves _ s).whenRunning
  case takeDispatch => exact (takeDispatch_moves _ s).whenRunning
  case preempt => exact (preemptOn_moves _ s).whenRunning
  case verifyTimeout => exact (timeoutJob_moves _ s).whenRunning
  case cancelRequest => exact (takeCancel_moves _ s).whenRunning
  case noticeDeadline => exact (reachNotice_moves _ s).whenRunning
  case faultHoldExpiry => exact (reachHold_moves s).whenRunning
  case decayDeadline => exact (decay_moves _ s).whenRunning
  case tick => exact .of_engine (by simp) (by simp)

end Sys2Proof.Machine
end

section
/-! SUPPORT. What a step can do to the retained set, the record that a slot of either table holds, and the record laws:
one record a key, the kinds and hits of each table, the pinned count. -/

namespace Sys2Proof.Machine

/-! ## What a step can do to the retained set -/

/-- The engine after the end-of-warm-reset steps, the disturbance included (R157). -/
def Engine.rechecked (d : Disturbance) (e : Engine) : Engine :=
  (e.disturbed d).checkedRecords.checkedRegions.adjusted

/-- The settings after the end-of-warm-reset steps, the disturbance included (R160). -/
def Settings.rechecked (d : Disturbance) (t : Settings) : Settings :=
  ({ t with codeAgrees := t.codeAgrees && !d.settings } : Settings).checked

/-- What a step does to the retained set where it is not a chain of moves: power-on, the assertion of WRST, or the checks
at its release (R153, R155, R157). -/
inductive ResetsRetained (s t : State) : Prop where
  | powerOn (engine : t.engine = .powerOn) (settings : t.win.settings = .powerOn)
  | asserted (engine : t.engine = s.engine.warmReset) (settings : t.win.settings = s.win.settings)
  | checked (d : Disturbance) (engine : t.engine = s.engine.rechecked d)
      (settings : t.win.settings = s.win.settings.rechecked d)

theorem postOutcome_engine (n : Nat) (s : State) : (postOutcome n s).engine = s.engine := by
  unfold postOutcome
  dsimp only
  split <;> simp

theorem postOutcome_win (n : Nat) (s : State) : (postOutcome n s).win = s.win := by
  unfold postOutcome
  dsimp only
  split <;> simp

theorem releaseWrst_cases (d : Disturbance) (s : State) :
    Moves s (releaseWrst d s) ∨ ResetsRetained s (releaseWrst d s) := by
  unfold releaseWrst
  dsimp only
  split
  · exact .inr (.checked d (postOutcome_engine _ _) (congrArg Window.settings (postOutcome_win _ _)))
  · exact .inl (.of_engine rfl rfl)

theorem assertWrst_cases (s : State) : Moves s (assertWrst s) ∨ ResetsRetained s (assertWrst s) := by
  unfold assertWrst
  split
  · exact .inl .refl
  · split
    · exact .inl (.of_engine rfl rfl)
    · exact .inr (.asserted rfl rfl)

/-- Every command changes the retained set by moves, or is a reset row that acts. -/
theorem exec_cases {i : Instr} {s t : State} (h : exec i s = .next t) : Moves s t ∨ ResetsRetained s t := by
  by_cases hi : isResetRow i = false
  · exact .inl (exec_moves hi h)
  · cases i
    case porstAssert =>
      cases h
      exact .inr (.powerOn rfl rfl)
    case porstRelease =>
      cases h
      exact .inl (.of_engine rfl rfl)
    case wrstAssert =>
      cases h
      exact assertWrst_cases s
    case endOfWarmReset d =>
      cases h
      exact releaseWrst_cases d s
    all_goals exact absurd rfl hi

theorem step_cases {s t : State} (h : step s = .next t) : Moves s t ∨ ResetsRetained s t := by
  unfold step at h
  split at h
  · cases h
    exact .inl (.of_engine (by simp) (by simp))
  next c rest _ =>
    have queued : Moves s (s.withPending rest) := .of_engine rfl rfl
    rcases exec_cases h with m | r
    · exact .inl (queued.trans m)
    · exact .inr (by
        cases r with
        | powerOn engine settings => exact .powerOn engine settings
        | asserted engine settings => exact .asserted engine settings
        | checked d engine settings => exact .checked d engine settings)

/-- A law that every move keeps and that holds after each action of the reset inputs is kept by every step. -/
theorem step_keeps {P : State → Prop} (move : ∀ s t, Move s t → P s → P t)
    (resets : ∀ s t, ResetsRetained s t → P s → P t) {s t : State} (h : step s = .next t) (hs : P s) : P t := by
  rcases step_cases h with m | r
  · exact m.keeps move hs
  · exact resets _ _ r hs

/-! ## The record in a slot of either table -/

/-- The common fields of the record in a slot of either table. -/
def State.coreAt (s : State) : RecRef → Option RecordCore
  | .c i => s.engine.cTable[i].map CRecord.core
  | .s i => s.engine.sTable[i].map SRecord.core

theorem coreAt_c {s : State} {i : CSlot} {c : RecordCore} :
    s.coreAt (.c i) = some c ↔ ∃ r, s.engine.cTable[i] = some r ∧ r.core = c := by
  simp [State.coreAt]

theorem coreAt_s {s : State} {i : SSlot} {c : RecordCore} :
    s.coreAt (.s i) = some c ↔ ∃ r, s.engine.sTable[i] = some r ∧ r.core = c := by
  simp [State.coreAt]

/-- A statement about every record of both tables, said once. -/
theorem forall_coreAt {s : State} {P : RecordCore → Prop} :
    (∀ a c, s.coreAt a = some c → P c) ↔
      (∀ (i : CSlot) (r : CRecord), s.engine.cTable[i] = some r → P r.core) ∧
        ∀ (i : SSlot) (r : SRecord), s.engine.sTable[i] = some r → P r.core := by
  constructor
  · intro h
    exact ⟨fun i r e => h (.c i) _ (coreAt_c.mpr ⟨r, e, rfl⟩), fun i r e => h (.s i) _ (coreAt_s.mpr ⟨r, e, rfl⟩)⟩
  · rintro ⟨hc, hs⟩ (i | i) c e
    · obtain ⟨r, at_, rfl⟩ := coreAt_c.mp e
      exact hc i r at_
    · obtain ⟨r, at_, rfl⟩ := coreAt_s.mp e
      exact hs i r at_

theorem coreAt_congr {s t : State} (hc : t.engine.cTable = s.engine.cTable) (hs : t.engine.sTable = s.engine.sTable)
    (a : RecRef) : t.coreAt a = s.coreAt a := by
  cases a <;> simp only [State.coreAt, hc, hs]

theorem map_set_get {α β : Type} {n : Nat} (v : Vector (Option α) n) (slot i : Fin n) (o : Option α) (f : α → β) :
    ((v.set slot.val o)[i]).map f = if i = slot then o.map f else v[i].map f := by
  rw [set_get]
  by_cases e : i = slot
  · rw [if_pos e, if_pos e.symm]
  · rw [if_neg e, if_neg (Ne.symm e)]

theorem coreAt_putC (s : State) (slot : CSlot) (r : CRecord) (a : RecRef) :
    (s.putC slot r).coreAt a = if a = .c slot then some r.core.recoded else s.coreAt a := by
  cases a with
  | s i => rfl
  | c i =>
    show ((s.engine.cTable.set slot.val _)[i]).map _ = _
    rw [map_set_get]
    by_cases e : i = slot
    · rw [if_pos e, if_pos (congrArg _ e)]
      rfl
    · rw [if_neg e, if_neg fun h => e (RecRef.c.inj h)]
      rfl

theorem coreAt_putS (s : State) (slot : SSlot) (r : SRecord) (a : RecRef) :
    (s.putS slot r).coreAt a = if a = .s slot then some r.core.recoded else s.coreAt a := by
  cases a with
  | c i => rfl
  | s i =>
    show ((s.engine.sTable.set slot.val _)[i]).map _ = _
    rw [map_set_get]
    by_cases e : i = slot
    · rw [if_pos e, if_pos (congrArg _ e)]
      rfl
    · rw [if_neg e, if_neg fun h => e (RecRef.s.inj h)]
      rfl

theorem coreAt_freedC (s : State) (slot : CSlot) (r : CRecord) (a : RecRef) :
    (s.freedC slot r).coreAt a = if a = .c slot then none else s.coreAt a := by
  cases a with
  | s i => rfl
  | c i =>
    show ((s.engine.cTable.set slot.val none)[i]).map _ = _
    rw [map_set_get]
    by_cases e : i = slot
    · rw [if_pos e, if_pos (congrArg _ e)]
      rfl
    · rw [if_neg e, if_neg fun h => e (RecRef.c.inj h)]
      rfl

theorem coreAt_dropS (s : State) (slot : SSlot) (a : RecRef) :
    (s.dropS slot).coreAt a = if a = .s slot then none else s.coreAt a := by
  cases a with
  | c i => rfl
  | s i =>
    show ((s.engine.sTable.set slot.val none)[i]).map _ = _
    rw [map_set_get]
    by_cases e : i = slot
    · rw [if_pos e, if_pos (congrArg _ e)]
      rfl
    · rw [if_neg e, if_neg fun h => e (RecRef.s.inj h)]
      rfl

theorem coreAt_emptied (s : State) (a : RecRef) : s.emptied.coreAt a = none := by
  cases a <;> simp [State.coreAt, State.emptied]

theorem keyAbsent_iff {s : State} {k : Key} : KeyAbsent k s ↔ ∀ a c, s.coreAt a = some c → c.key ≠ k :=
  (forall_coreAt (P := fun c => c.key ≠ k)).symm

/-! ## One record a key -/

theorem keysUnique_iff {s : State} :
    KeysUnique s ↔ ∀ a b c d, s.coreAt a = some c → s.coreAt b = some d → c.key = d.key → a = b := by
  constructor
  · rintro ⟨cc, ss, cs⟩ (i | i) (j | j) c d hc hd e
    · obtain ⟨r, hr, rfl⟩ := coreAt_c.mp hc
      obtain ⟨q, hq, rfl⟩ := coreAt_c.mp hd
      rw [cc i j r q hr hq e]
    · obtain ⟨r, hr, rfl⟩ := coreAt_c.mp hc
      obtain ⟨q, hq, rfl⟩ := coreAt_s.mp hd
      exact absurd e (cs i j r q hr hq)
    · obtain ⟨r, hr, rfl⟩ := coreAt_s.mp hc
      obtain ⟨q, hq, rfl⟩ := coreAt_c.mp hd
      exact absurd e.symm (cs j i q r hq hr)
    · obtain ⟨r, hr, rfl⟩ := coreAt_s.mp hc
      obtain ⟨q, hq, rfl⟩ := coreAt_s.mp hd
      rw [ss i j r q hr hq e]
  · intro h
    refine ⟨fun i j r q hr hq e => ?_, fun i j r q hr hq e => ?_, fun i j r q hr hq e => ?_⟩
    · exact RecRef.c.inj (h (.c i) (.c j) _ _ (coreAt_c.mpr ⟨r, hr, rfl⟩) (coreAt_c.mpr ⟨q, hq, rfl⟩) e)
    · exact RecRef.s.inj (h (.s i) (.s j) _ _ (coreAt_s.mpr ⟨r, hr, rfl⟩) (coreAt_s.mpr ⟨q, hq, rfl⟩) e)
    · cases h (.c i) (.s j) _ _ (coreAt_c.mpr ⟨r, hr, rfl⟩) (coreAt_s.mpr ⟨q, hq, rfl⟩) e

/-- Every record of `t` stands where `s` holds one for the same granule. -/
def KeysWithin (t s : State) : Prop := ∀ a d, t.coreAt a = some d → ∃ c, s.coreAt a = some c ∧ c.key = d.key

/-- No key gains a second record where no slot gains a key. -/
theorem KeysUnique.of_within {s t : State} (h : KeysUnique s) (w : KeysWithin t s) : KeysUnique t := by
  rw [keysUnique_iff] at *
  intro a b c d hc hd e
  obtain ⟨c', hc', ec⟩ := w a c hc
  obtain ⟨d', hd', ed⟩ := w b d hd
  exact h a b c' d' hc' hd' (ec.trans (e.trans ed.symm))

/-- One slot takes a key that no other slot then holds. -/
theorem KeysUnique.of_new {s t : State} (h : KeysUnique s) (n : RecRef) (k : Key)
    (new : ∀ c, t.coreAt n = some c → c.key = k)
    (old : ∀ a d, a ≠ n → t.coreAt a = some d → d.key ≠ k ∧ s.coreAt a = some d) : KeysUnique t := by
  rw [keysUnique_iff] at *
  intro a b c d hc hd e
  by_cases an : a = n <;> by_cases bn : b = n
  · rw [an, bn]
  · subst an
    exact absurd (e.symm.trans (new c hc)) (old b d bn hd).1
  · subst bn
    exact absurd (e.trans (new d hd)) (old a c an hc).1
  · exact h a b c d (old a c an hc).2 (old b d bn hd).2 e

theorem keysWithin_of_same {s t : State} (hc : t.engine.cTable = s.engine.cTable)
    (hs : t.engine.sTable = s.engine.sTable) : KeysWithin t s :=
  fun a d h => ⟨d, (coreAt_congr hc hs a) ▸ h, rfl⟩

theorem keysWithin_putC {s : State} {slot : CSlot} {r r' : CRecord} (at_ : s.engine.cTable[slot] = some r)
    (key : r'.core.key = r.core.key) : KeysWithin (s.putC slot r') s := by
  intro a d h
  rw [coreAt_putC] at h
  split at h
  next here =>
    cases h
    exact ⟨r.core, here ▸ coreAt_c.mpr ⟨r, at_, rfl⟩, key.symm⟩
  next => exact ⟨d, h, rfl⟩

theorem keysWithin_putS {s : State} {slot : SSlot} {r r' : SRecord} (at_ : s.engine.sTable[slot] = some r)
    (key : r'.core.key = r.core.key) : KeysWithin (s.putS slot r') s := by
  intro a d h
  rw [coreAt_putS] at h
  split at h
  next here =>
    cases h
    exact ⟨r.core, here ▸ coreAt_s.mpr ⟨r, at_, rfl⟩, key.symm⟩
  next => exact ⟨d, h, rfl⟩

theorem keysWithin_freedC (s : State) (slot : CSlot) (r : CRecord) : KeysWithin (s.freedC slot r) s := by
  intro a d h
  rw [coreAt_freedC] at h
  split at h
  · cases h
  · exact ⟨d, h, rfl⟩

theorem keysWithin_dropS (s : State) (slot : SSlot) : KeysWithin (s.dropS slot) s := by
  intro a d h
  rw [coreAt_dropS] at h
  split at h
  · cases h
  · exact ⟨d, h, rfl⟩

theorem keysUnique_of_move {s t : State} (m : Move s t) (h : KeysUnique s) : KeysUnique t := by
  cases m with
  | same k => exact h.of_within (keysWithin_of_same k.cTable k.sTable)
  | region | range | memory | settings => exact h.of_within (keysWithin_of_same rfl rfl)
  | rewriteC at_ follows => exact h.of_within (keysWithin_putC at_ follows.key)
  | pin at_ => exact h.of_within (keysWithin_putC at_ rfl)
  | unpin at_ => exact h.of_within (keysWithin_putC at_ rfl)
  | dropC => exact h.of_within (keysWithin_freedC _ _ _)
  | @fillC slot r _ absent =>
    refine h.of_new (.c slot) r.core.key (fun c e => ?_) fun a d ne e => ?_
    · rw [coreAt_putC, if_pos rfl] at e
      cases e
      rfl
    · rw [coreAt_putC, if_neg ne] at e
      exact ⟨keyAbsent_iff.mp absent a d e, e⟩
  | rewriteS at_ follows => exact h.of_within (keysWithin_putS at_ follows.key)
  | dropS => exact h.of_within (keysWithin_dropS _ _)
  | @fillS slot r absent =>
    refine h.of_new (.s slot) r.core.key (fun c e => ?_) fun a d ne e => ?_
    · rw [coreAt_putS, if_pos rfl] at e
      cases e
      rfl
    · rw [coreAt_putS, if_neg ne] at e
      exact ⟨keyAbsent_iff.mp absent a d e, e⟩
  | @promote slot free r r' at_ key =>
    refine h.of_new (.s free) r'.core.key (fun c e => ?_) fun a d ne e => ?_
    · rw [coreAt_freedC, if_neg nofun, coreAt_putS, if_pos rfl] at e
      cases e
      rfl
    · rw [coreAt_freedC] at e
      split at e
      · cases e
      next elsewhere =>
        rw [coreAt_putS, if_neg ne] at e
        refine ⟨fun same => elsewhere ?_, e⟩
        exact keysUnique_iff.mp h a (.c slot) d r.core e (coreAt_c.mpr ⟨r, at_, rfl⟩) (same.trans key)
  | clear => exact h.of_within fun a d e => by rw [coreAt_emptied] at e; cases e

/-! ## Kinds and hits -/

/-- What holds of every occupied slot, and of what is written into one, holds of every slot thereafter. -/
theorem forall_set {α : Type} {n : Nat} {v : Vector (Option α) n} {P : α → Prop}
    (h : ∀ (i : Fin n) (r : α), v[i] = some r → P r) {slot : Fin n} {o : Option α} (new : ∀ r, o = some r → P r) :
    ∀ (i : Fin n) (r : α), (v.set slot.val o)[i] = some r → P r := by
  intro i r e
  rw [set_get] at e
  split at e
  · exact new r e
  · exact h i r e

theorem recordsLawful_of_tables {s t : State} (h : RecordsLawful s) (hc : t.engine.cTable = s.engine.cTable)
    (hs : t.engine.sTable = s.engine.sTable) : RecordsLawful t := by
  unfold RecordsLawful
  rw [hc, hs]
  exact h

theorem recordsLawful_putC {s : State} (h : RecordsLawful s) (slot : CSlot) {r : CRecord} (hr : r.lawful) :
    RecordsLawful (s.putC slot r) :=
  ⟨forall_set h.1 fun _ e => by cases e; exact hr, h.2⟩

theorem recordsLawful_putS {s : State} (h : RecordsLawful s) (slot : SSlot) {r : SRecord} (hr : r.lawful) :
    RecordsLawful (s.putS slot r) :=
  ⟨h.1, forall_set h.2 fun _ e => by cases e; exact hr⟩

theorem recordsLawful_freedC {s : State} (h : RecordsLawful s) (slot : CSlot) (r : CRecord) :
    RecordsLawful (s.freedC slot r) :=
  ⟨forall_set h.1 fun _ e => (Option.some_ne_none _ e.symm).elim, h.2⟩

theorem recordsLawful_of_empty {t : State} (hc : t.engine.cTable = Vector.replicate 32 none)
    (hs : t.engine.sTable = Vector.replicate 16 none) : RecordsLawful t := by
  unfold RecordsLawful
  rw [hc, hs]
  constructor <;> intro i r e <;> simp at e

theorem recordsLawful_of_move {s t : State} (m : Move s t) (h : RecordsLawful s) : RecordsLawful t := by
  cases m with
  | same k => exact recordsLawful_of_tables h k.cTable k.sTable
  | region | range | memory | settings => exact recordsLawful_of_tables h rfl rfl
  | rewriteC at_ follows => exact recordsLawful_putC h _ (follows.lawful (h.1 _ _ at_))
  | @pin slot r at_ => exact recordsLawful_putC h slot (h.1 slot r at_)
  | @unpin slot r at_ => exact recordsLawful_putC h slot (h.1 slot r at_)
  | dropC => exact recordsLawful_freedC h _ _
  | fillC _ _ _ lawful => exact recordsLawful_putC h _ lawful
  | rewriteS at_ follows => exact recordsLawful_putS h _ (follows.lawful (h.2 _ _ at_))
  | dropS => exact ⟨h.1, forall_set h.2 fun _ e => (Option.some_ne_none _ e.symm).elim⟩
  | fillS _ _ lawful => exact recordsLawful_putS h _ lawful
  | promote at_ _ _ lawful => exact recordsLawful_freedC (recordsLawful_putS h _ (lawful (h.1 _ _ at_))) _ _
  | clear => exact recordsLawful_of_empty rfl rfl

/-! ## The pinned count -/

/-- Whether a slot holds a pinned record. -/
def holdsPinned (o : Option CRecord) : Bool := o.any CRecord.pinned

/-- The number of pinned records of a C-table. -/
def pinsIn (v : Vector (Option CRecord) 32) : Nat := v.countP holdsPinned

theorem cRecords_countP_pinned (e : Engine) : e.cRecords.countP CRecord.pinned = pinsIn e.cTable := by
  unfold Engine.cRecords pinsIn
  rw [List.countP_filterMap, ← Vector.countP_toList]
  congr 1
  funext o
  cases o <;> rfl

theorem pinnedCounted_iff {s : State} :
    PinnedCounted s ↔ s.engine.pinnedCount = pinsIn s.engine.cTable ∧ s.engine.pinnedCount ≤ 24 := by
  unfold PinnedCounted
  rw [cRecords_countP_pinned]

/-- A slot written changes the number of pinned records by what left and what came. -/
theorem pinsIn_set (v : Vector (Option CRecord) 32) (slot : CSlot) (o : Option CRecord) :
    pinsIn (v.set slot.val o) = pinsIn v - (holdsPinned v[slot]).toNat + (holdsPinned o).toNat := by
  have toNat (b : Bool) : b.toNat = if b = true then 1 else 0 := by cases b <;> rfl
  rw [toNat, toNat]
  exact Vector.countP_set _

theorem pinsIn_pos {v : Vector (Option CRecord) 32} {slot : CSlot} (h : holdsPinned v[slot] = true) :
    0 < pinsIn v :=
  Vector.countP_pos_iff.mpr ⟨_, Vector.getElem_mem _, h⟩

theorem pinsIn_empty : pinsIn (Vector.replicate 32 none) = 0 := by
  rw [pinsIn, Vector.countP_replicate]
  rfl

theorem pinsIn_eq_finRange (v : Vector (Option CRecord) 32) :
    pinsIn v = (List.finRange 32).countP fun i => holdsPinned v[i] := by
  have same : v = Vector.ofFn fun i : Fin 32 => v[i] := vec_ext fun i => (ofFn_get (fun i : Fin 32 => v[i]) i).symm
  conv_lhs => rw [same]
  rw [pinsIn, ← Vector.countP_toList, Vector.toList_ofFn, List.ofFn_eq_map, List.countP_map]
  rfl

/-- Where every pinned slot of one table is pinned in another, the first has no more pinned records. -/
theorem pinsIn_le {v w : Vector (Option CRecord) 32}
    (h : ∀ i : CSlot, holdsPinned w[i] = true → holdsPinned v[i] = true) : pinsIn w ≤ pinsIn v := by
  rw [pinsIn_eq_finRange, pinsIn_eq_finRange]
  exact List.countP_mono_left fun i _ => h i

theorem pinnedCounted_of_same {s t : State} (h : PinnedCounted s) (hc : t.engine.cTable = s.engine.cTable)
    (hp : t.engine.pinnedCount = s.engine.pinnedCount) : PinnedCounted t := by
  rw [pinnedCounted_iff] at *
  rw [hc, hp]
  exact h

/-- A C-record written over a slot that is pinned as the record is (R28). -/
theorem pinnedCounted_putC {s : State} (h : PinnedCounted s) {slot : CSlot} {r : CRecord}
    (same : holdsPinned s.engine.cTable[slot] = r.pinned) : PinnedCounted (s.putC slot r) := by
  rw [pinnedCounted_iff] at *
  obtain ⟨count, limit⟩ := h
  refine ⟨?_, limit⟩
  show s.engine.pinnedCount = pinsIn (s.engine.cTable.set slot.val (some { r with core := r.core.recoded }))
  rw [pinsIn_set, same, count]
  show pinsIn s.engine.cTable = pinsIn s.engine.cTable - r.pinned.toNat + r.pinned.toNat
  cases p : r.pinned with
  | false => rfl
  | true => exact (Nat.sub_add_cancel (pinsIn_pos (same.trans p))).symm

theorem pinnedCounted_freedC {s : State} (h : PinnedCounted s) {slot : CSlot} {r : CRecord}
    (at_ : s.engine.cTable[slot] = some r) : PinnedCounted (s.freedC slot r) := by
  rw [pinnedCounted_iff] at *
  obtain ⟨count, limit⟩ := h
  refine ⟨?_, le_trans (Nat.sub_le _ _) limit⟩
  show s.engine.pinnedCount - r.pinned.toNat = pinsIn (s.engine.cTable.set slot.val none)
  rw [pinsIn_set, at_, count]
  rfl

theorem pinnedCounted_of_move {s t : State} (m : Move s t) (h : PinnedCounted s) : PinnedCounted t := by
  cases m with
  | same k => exact pinnedCounted_of_same h k.cTable k.pinnedCount
  | region | range | memory | settings => exact pinnedCounted_of_same h rfl rfl
  | rewriteC at_ follows => exact pinnedCounted_putC h (by rw [at_]; exact follows.pinned.symm)
  | @pin slot r at_ unpinned room =>
    rw [pinnedCounted_iff] at *
    refine ⟨?_, room⟩
    show s.engine.pinnedCount + 1 = pinsIn (s.engine.cTable.set slot.val _)
    rw [pinsIn_set, at_, h.1]
    simp [holdsPinned, unpinned]
  | @unpin slot r at_ pinned =>
    rw [pinnedCounted_iff] at *
    refine ⟨?_, le_trans (Nat.sub_le _ _) h.2⟩
    show s.engine.pinnedCount - 1 = pinsIn (s.engine.cTable.set slot.val _)
    rw [pinsIn_set, at_, h.1]
    simp [holdsPinned, pinned]
  | dropC at_ => exact pinnedCounted_freedC h at_
  | @fillC slot r room _ _ _ unpinned =>
    refine pinnedCounted_putC h ?_
    rw [unpinned]
    cases at_ : s.engine.cTable[slot] with
    | none => rfl
    | some q => exact room q at_
  | rewriteS | dropS | fillS => exact pinnedCounted_of_same h rfl rfl
  | promote at_ => exact pinnedCounted_freedC (s := s.putS _ _) (pinnedCounted_of_same h rfl rfl) at_
  | clear => exact pinnedCounted_iff.mpr ⟨pinsIn_empty.symm, Nat.zero_le _⟩

/-! ## The reset inputs -/

theorem disturbed_cTable (d : Disturbance) (e : Engine) (i : CSlot) :
    (e.disturbed d).cTable[i] =
      e.cTable[i].map fun r => { r with core := r.core.disturbed (d.cRecords.getLsbD i.val) } := ofFn_get _ i

theorem disturbed_sTable (d : Disturbance) (e : Engine) (i : SSlot) :
    (e.disturbed d).sTable[i] =
      e.sTable[i].map fun r => { r with core := r.core.disturbed (d.sRecords.getLsbD i.val) } := ofFn_get _ i

theorem checkedRecords_cTable (e : Engine) (i : CSlot) :
    e.checkedRecords.cTable[i] = e.cTable[i].filter fun r => recordKept e r.core := ofFn_get _ i

theorem checkedRecords_sTable (e : Engine) (i : SSlot) :
    e.checkedRecords.sTable[i] = e.sTable[i].filter fun r => recordKept e r.core := ofFn_get _ i

theorem checkedRegions_cTable (e : Engine) : e.checkedRegions.cTable = e.cTable := by
  simp only [Engine.checkedRegions]

theorem checkedRegions_sTable (e : Engine) : e.checkedRegions.sTable = e.sTable := by
  simp only [Engine.checkedRegions]

theorem adjusted_cTable (e : Engine) (i : CSlot) : e.adjusted.cTable[i] = e.cTable[i].map CRecord.adjusted :=
  ofFn_get _ i

theorem adjusted_sTable (e : Engine) : e.adjusted.sTable = e.sTable := by
  simp only [Engine.adjusted]

theorem adjusted_pinnedCount (e : Engine) : e.adjusted.pinnedCount = pinsIn e.cTable := by
  rw [← cRecords_countP_pinned]
  simp only [Engine.adjusted]

/-- A record that the end-of-warm-reset steps leave in a C slot: the slot's record, disturbed and adjusted (R158, R159,
R161). -/
theorem rechecked_cTable {d : Disturbance} {e : Engine} {i : CSlot} {q : CRecord}
    (h : (e.rechecked d).cTable[i] = some q) :
    ∃ r b, e.cTable[i] = some r ∧ recordKept (e.disturbed d) (r.core.disturbed b) = true ∧
      q = ({ r with core := r.core.disturbed b } : CRecord).adjusted := by
  rw [Engine.rechecked, adjusted_cTable, checkedRegions_cTable, checkedRecords_cTable, disturbed_cTable] at h
  obtain ⟨p, hp, rfl⟩ := Option.map_eq_some_iff.mp h
  obtain ⟨hp, kept⟩ := Option.filter_eq_some_iff.mp hp
  obtain ⟨r, hr, rfl⟩ := Option.map_eq_some_iff.mp hp
  exact ⟨r, _, hr, kept, rfl⟩

/-- A record that the end-of-warm-reset steps leave in an S slot (R158, R159). -/
theorem rechecked_sTable {d : Disturbance} {e : Engine} {i : SSlot} {q : SRecord}
    (h : (e.rechecked d).sTable[i] = some q) :
    ∃ r b, e.sTable[i] = some r ∧ recordKept (e.disturbed d) (r.core.disturbed b) = true ∧
      q = { r with core := r.core.disturbed b } := by
  rw [Engine.rechecked, adjusted_sTable, checkedRegions_sTable, checkedRecords_sTable, disturbed_sTable] at h
  obtain ⟨hq, kept⟩ := Option.filter_eq_some_iff.mp h
  obtain ⟨r, hr, rfl⟩ := Option.map_eq_some_iff.mp hq
  exact ⟨r, _, hr, kept, rfl⟩

@[simp] theorem CRecord.adjusted_key (r : CRecord) : r.adjusted.core.key = r.core.key := by
  unfold CRecord.adjusted
  split <;> rfl

@[simp] theorem CRecord.adjusted_pinned (r : CRecord) : r.adjusted.pinned = r.pinned := by
  unfold CRecord.adjusted
  split <;> rfl

theorem CRecord.adjusted_lawful {r : CRecord} (h : r.lawful) : r.adjusted.lawful := by
  unfold CRecord.adjusted
  split <;> exact h

theorem recordsLawful_of_resets {s t : State} (r : ResetsRetained s t) (h : RecordsLawful s) : RecordsLawful t := by
  cases r with
  | powerOn engine => exact recordsLawful_of_empty (by rw [engine]; rfl) (by rw [engine]; rfl)
  | asserted engine => exact recordsLawful_of_tables h (by rw [engine]; rfl) (by rw [engine]; rfl)
  | checked d engine =>
    unfold RecordsLawful
    rw [engine]
    refine ⟨fun i q e => ?_, fun i q e => ?_⟩
    · obtain ⟨r, b, at_, -, rfl⟩ := rechecked_cTable e
      exact CRecord.adjusted_lawful (h.1 i r at_)
    · obtain ⟨r, b, at_, -, rfl⟩ := rechecked_sTable e
      exact h.2 i r at_

theorem keysWithin_rechecked {s t : State} {d : Disturbance} (engine : t.engine = s.engine.rechecked d) :
    KeysWithin t s := by
  rintro (i | i) c e
  · obtain ⟨q, hq, rfl⟩ := coreAt_c.mp e
    rw [engine] at hq
    obtain ⟨r, b, at_, -, rfl⟩ := rechecked_cTable hq
    exact ⟨r.core, coreAt_c.mpr ⟨r, at_, rfl⟩, (CRecord.adjusted_key { r with core := r.core.disturbed b }).symm⟩
  · obtain ⟨q, hq, rfl⟩ := coreAt_s.mp e
    rw [engine] at hq
    obtain ⟨r, b, at_, -, rfl⟩ := rechecked_sTable hq
    exact ⟨r.core, coreAt_s.mpr ⟨r, at_, rfl⟩, rfl⟩

theorem keysUnique_of_resets {s t : State} (r : ResetsRetained s t) (h : KeysUnique s) : KeysUnique t := by
  cases r with
  | powerOn engine =>
    refine h.of_within fun a c e => ?_
    cases a <;> simp [State.coreAt, engine, Engine.powerOn] at e
  | asserted engine => exact h.of_within (keysWithin_of_same (by rw [engine]; rfl) (by rw [engine]; rfl))
  | checked d engine => exact h.of_within (keysWithin_rechecked engine)

/-- The pinned count formed again at the end of a warm reset is that of the table it leaves (R161). -/
theorem rechecked_pinnedCount (d : Disturbance) (e : Engine) :
    (e.rechecked d).pinnedCount = pinsIn (e.rechecked d).cTable := by
  rw [Engine.rechecked, adjusted_pinnedCount]
  have slot (i : CSlot) : holdsPinned (e.disturbed d).checkedRecords.checkedRegions.adjusted.cTable[i] =
      holdsPinned (e.disturbed d).checkedRecords.checkedRegions.cTable[i] := by
    rw [adjusted_cTable]
    cases (e.disturbed d).checkedRecords.checkedRegions.cTable[i] with
    | none => rfl
    | some r => exact r.adjusted_pinned
  exact le_antisymm (pinsIn_le fun i h => (slot i).trans h) (pinsIn_le fun i h => (slot i).symm.trans h)

theorem pinnedCounted_of_resets {s t : State} (r : ResetsRetained s t) (h : PinnedCounted s) : PinnedCounted t := by
  cases r with
  | powerOn engine =>
    rw [pinnedCounted_iff, engine]
    exact ⟨pinsIn_empty.symm, Nat.zero_le _⟩
  | asserted engine => exact pinnedCounted_of_same h (by rw [engine]; rfl) (by rw [engine]; rfl)
  | checked d engine =>
    rw [pinnedCounted_iff] at *
    obtain ⟨count, limit⟩ := h
    have fewer : pinsIn (s.engine.rechecked d).cTable ≤ pinsIn s.engine.cTable := by
      refine pinsIn_le fun i pinned => ?_
      cases e : (s.engine.rechecked d).cTable[i] with
      | none =>
        rw [e] at pinned
        cases pinned
      | some q =>
        obtain ⟨r, b, at_, -, rfl⟩ := rechecked_cTable e
        rw [e] at pinned
        rw [at_]
        exact (CRecord.adjusted_pinned { r with core := r.core.disturbed b }).symm.trans pinned
    rw [engine, rechecked_pinnedCount]
    exact ⟨rfl, by omega⟩

/-! ## Every step -/

/-- Settles O57: each of the three laws is kept by every move of the engine and by the reset inputs. -/
theorem recordLawsKept : Obligations.RecordLawsKept := by
  unfold Obligations.RecordLawsKept
  intro s t lawful unique counted h
  exact ⟨step_keeps (fun _ _ => recordsLawful_of_move) (fun _ _ => recordsLawful_of_resets) h lawful,
    step_keeps (fun _ _ => keysUnique_of_move) (fun _ _ => keysUnique_of_resets) h unique,
    step_keeps (fun _ _ => pinnedCounted_of_move) (fun _ _ => pinnedCounted_of_resets) h counted⟩

end Sys2Proof.Machine
end

section
/-! SUPPORT. The laws of the retained set and of the policy and timing values: integrity codes, the owners of recorded
memories, values in their ranges, and the burst state of the regions. -/

namespace Sys2Proof.Machine

/-! ## The laws, taken apart -/

/-- The integrity code of every record agrees (R8). -/
def RecordsCoded (s : State) : Prop := ∀ a c, s.coreAt a = some c → c.codeAgrees = true

/-- What holds of each entry other than a record: its code agrees, its values are in range, a region's burst state is
lawful (R8, R43, R45, R47, R170). -/
structure EntriesLawful (s : State) : Prop where
  memories : ∀ m : MemId, s.engine.memories[m].codeAgrees = true ∧ s.engine.memories[m].inRange
  ranges : ∀ i : Fin 12, s.engine.ranges[i].base ≤ s.engine.ranges[i].limit
  regions : ∀ ix : RegionIx,
    s.engine.regions[ix].codeAgrees = true ∧ s.engine.regions[ix].policy.inRange ∧ s.engine.regions[ix].lawful
  settings : s.win.settings.codeAgrees = true ∧ s.win.settings.inRange

/-- The memory that a key names has an owner (R34). -/
def Engine.owned (e : Engine) (k : Key) : Prop := e.memories[k.mem].owner ≠ none

theorem memoriesOwned_iff {s : State} : MemoriesOwned s ↔ ∀ a c, s.coreAt a = some c → s.engine.owned c.key :=
  (forall_coreAt (P := fun c => s.engine.owned c.key)).symm

theorem retained_and_policy_iff {s : State} :
    RetainedLawful s ∧ PolicyLawful s ↔ RecordsCoded s ∧ MemoriesOwned s ∧ EntriesLawful s := by
  have coded := forall_coreAt (s := s) (P := fun c => c.codeAgrees = true)
  constructor
  · rintro ⟨⟨⟨cc, cs, cm, cr, ct⟩, owned⟩, bursts, sizes, ranges, policies, timing⟩
    exact ⟨coded.mpr ⟨cc, cs⟩, owned, fun m => ⟨cm m, sizes m⟩, ranges, fun ix => ⟨cr ix, policies ix, bursts ix⟩,
      ct, timing⟩
  · rintro ⟨records, owned, memories, ranges, regions, ct, timing⟩
    obtain ⟨cc, cs⟩ := coded.mp records
    exact ⟨⟨⟨cc, cs, fun m => (memories m).1, fun ix => (regions ix).1, ct⟩, owned⟩, fun ix => (regions ix).2.2,
      fun m => (memories m).2, ranges, fun ix => (regions ix).2.1, timing⟩

/-! ## Moves -/

/-- A law of every record, kept where one slot is written. -/
theorem recordsCoded_of_move {s t : State} (m : Move s t) (h : RecordsCoded s) : RecordsCoded t := by
  have written {u v : State} {n : RecRef} {r : RecordCore} (hu : RecordsCoded u)
      (e : ∀ a, v.coreAt a = if a = n then some r.recoded else u.coreAt a) : RecordsCoded v := by
    intro a c hc
    rw [e] at hc
    split at hc
    · cases hc
      rfl
    · exact hu a c hc
  have freed {u v : State} {n : RecRef} (hu : RecordsCoded u)
      (e : ∀ a, v.coreAt a = if a = n then none else u.coreAt a) : RecordsCoded v := by
    intro a c hc
    rw [e] at hc
    split at hc
    · cases hc
    · exact hu a c hc
  cases m with
  | same k => exact fun a c e => h a c ((coreAt_congr k.cTable k.sTable a) ▸ e)
  | region | range | memory | settings => exact fun a c e => h a c ((coreAt_congr rfl rfl a) ▸ e)
  | rewriteC | fillC => exact written h (coreAt_putC _ _ _)
  | pin => exact written h (coreAt_putC _ _ _)
  | unpin => exact written h (coreAt_putC _ _ _)
  | rewriteS | fillS => exact written h (coreAt_putS _ _ _)
  | dropC => exact freed h (coreAt_freedC _ _ _)
  | dropS => exact freed h (coreAt_dropS _ _)
  | promote => exact freed (written h (coreAt_putS _ _ _)) (coreAt_freedC _ _ _)
  | clear => exact fun a c e => by rw [coreAt_emptied] at e; cases e

/-- Owners stay where no slot gains a key and the memories stay. -/
theorem MemoriesOwned.of_within {s t : State} (h : MemoriesOwned s) (w : KeysWithin t s)
    (hm : t.engine.memories = s.engine.memories) : MemoriesOwned t := by
  rw [memoriesOwned_iff] at *
  intro a d e
  obtain ⟨c, hc, key⟩ := w a d e
  have named : s.engine.owned d.key := key ▸ h a c hc
  unfold Engine.owned
  rw [hm]
  exact named

theorem memoriesOwned_of_move {s t : State} (m : Move s t) (h : MemoriesOwned s) : MemoriesOwned t := by
  cases m with
  | same k => exact h.of_within (keysWithin_of_same k.cTable k.sTable) k.memories
  | region | range | settings => exact h.of_within (keysWithin_of_same rfl rfl) rfl
  | @memory m e unused =>
    have other {r : RecordCore} (named : r.key.mem = m → MemoryNamed m s) :
        (s.engine.memories.set m.val e)[r.key.mem] = s.engine.memories[r.key.mem] :=
      set_get_other _ _ _ _ fun same => unused (named same.symm)
    refine ⟨fun i r at_ => ?_, fun i r at_ => ?_⟩
    · show (s.engine.memories.set m.val e)[r.core.key.mem].owner ≠ none
      rw [other fun same => .inl ⟨i, r, at_, same⟩]
      exact h.1 i r at_
    · show (s.engine.memories.set m.val e)[r.core.key.mem].owner ≠ none
      rw [other fun same => .inr (.inl ⟨i, r, at_, same⟩)]
      exact h.2 i r at_
  | rewriteC at_ follows => exact h.of_within (keysWithin_putC at_ follows.key) rfl
  | pin at_ => exact MemoriesOwned.of_within h (keysWithin_putC at_ rfl) rfl
  | unpin at_ => exact MemoriesOwned.of_within h (keysWithin_putC at_ rfl) rfl
  | dropC => exact h.of_within (keysWithin_freedC _ _ _) rfl
  | fillC _ _ owned => exact ⟨forall_set h.1 fun _ e => by cases e; exact owned, h.2⟩
  | rewriteS at_ follows => exact h.of_within (keysWithin_putS at_ follows.key) rfl
  | dropS => exact h.of_within (keysWithin_dropS _ _) rfl
  | fillS _ owned => exact ⟨h.1, forall_set h.2 fun _ e => by cases e; exact owned⟩
  | @promote slot free r r' at_ key =>
    have before : s.engine.owned r.core.key := h.1 slot r at_
    have owned : s.engine.owned r'.core.key := key ▸ before
    have put : MemoriesOwned (s.putS free r') := ⟨h.1, forall_set h.2 fun _ e => by cases e; exact owned⟩
    exact put.of_within (keysWithin_freedC _ _ _) rfl
  | clear => exact h.of_within (fun a d e => by rw [coreAt_emptied] at e; cases e) rfl

/-- A law of every entry of a table, kept where one entry is written that satisfies it. -/
theorem forall_entry_set {α : Type} {n : Nat} {v : Vector α n} {P : α → Prop} (h : ∀ i : Fin n, P v[i]) {k : Fin n}
    {x : α} (new : P x) : ∀ i : Fin n, P (v.set k.val x)[i] := by
  intro i
  rw [set_get]
  split
  · exact new
  · exact h i

theorem entriesLawful_of_same {s t : State} (h : EntriesLawful s) (hm : t.engine.memories = s.engine.memories)
    (hr : t.engine.ranges = s.engine.ranges) (hg : t.engine.regions = s.engine.regions)
    (ht : t.win.settings = s.win.settings) : EntriesLawful t := by
  obtain ⟨memories, ranges, regions, settings⟩ := h
  constructor
  · rwa [hm]
  · rwa [hr]
  · rwa [hg]
  · rwa [ht]

theorem entriesLawful_of_move {s t : State} (m : Move s t) (h : EntriesLawful s) : EntriesLawful t := by
  cases m with
  | same k => exact entriesLawful_of_same h k.memories k.ranges k.regions k.settings
  | @region ix r follows =>
    obtain ⟨code, range, lawful⟩ := h.regions ix
    exact ⟨h.memories, h.ranges,
      forall_entry_set (P := fun r : Region => r.codeAgrees = true ∧ r.policy.inRange ∧ r.lawful) h.regions
        ⟨follows.codeAgrees code, follows.inRange range, follows.lawful lawful⟩, h.settings⟩
  | range le =>
    exact ⟨h.memories, forall_entry_set (P := fun r : RegionRange => r.base ≤ r.limit) h.ranges le, h.regions,
      h.settings⟩
  | memory _ range code =>
    exact ⟨forall_entry_set (P := fun e : MemoryEntry => e.codeAgrees = true ∧ e.inRange) h.memories ⟨code, range⟩,
      h.ranges, h.regions, h.settings⟩
  | settings range code => exact ⟨h.memories, h.ranges, h.regions, code, range⟩
  | rewriteC | pin | unpin | dropC | fillC | rewriteS | dropS | fillS | promote | clear =>
    exact entriesLawful_of_same h rfl rfl rfl rfl

/-! ## The reset inputs -/

theorem CRecord.adjusted_coded {r : CRecord} (h : r.core.codeAgrees = true) : r.adjusted.core.codeAgrees = true := by
  unfold CRecord.adjusted
  split
  · rfl
  all_goals exact h

/-- A record that the checks keep agrees with its code, and so does its memory's entry (R158, R159). -/
theorem recordKept_iff (e : Engine) (c : RecordCore) :
    recordKept e c = true ↔ e.memories[c.key.mem].codeAgrees = true ∧ c.codeAgrees = true := by
  unfold recordKept
  exact Bool.and_eq_true_iff

theorem recordsCoded_of_resets {s t : State} (r : ResetsRetained s t) (h : RecordsCoded s) : RecordsCoded t := by
  cases r with
  | powerOn engine =>
    intro a c e
    cases a <;> simp [State.coreAt, engine, Engine.powerOn] at e
  | asserted engine =>
    intro a c e
    rw [coreAt_congr (s := s) (by rw [engine]; rfl) (by rw [engine]; rfl)] at e
    exact h a c e
  | checked d engine =>
    refine forall_coreAt.mpr ⟨fun i q e => ?_, fun i q e => ?_⟩ <;> rw [engine] at e
    · obtain ⟨r, b, -, kept, rfl⟩ := rechecked_cTable e
      exact CRecord.adjusted_coded ((recordKept_iff _ _).mp kept).2
    · obtain ⟨r, b, -, kept, rfl⟩ := rechecked_sTable e
      exact ((recordKept_iff _ _).mp kept).2

theorem disturbed_memories (d : Disturbance) (e : Engine) (m : MemId) :
    (e.disturbed d).memories[m] =
      { e.memories[m] with codeAgrees := e.memories[m].codeAgrees && !d.memories.getLsbD m.val } := ofFn_get _ m

theorem disturbed_regions (d : Disturbance) (e : Engine) (ix : RegionIx) :
    (e.disturbed d).regions[ix] =
      { e.regions[ix] with codeAgrees := e.regions[ix].codeAgrees && !d.regions.getLsbD ix.val } := ofFn_get _ ix

/-- A memory entry at the end of a warm reset: the entry where its code agrees, otherwise its power-on value (R158). -/
theorem rechecked_memories (d : Disturbance) (e : Engine) (m : MemId) :
    (e.rechecked d).memories[m] =
      if (e.disturbed d).memories[m].codeAgrees then (e.disturbed d).memories[m] else .powerOn := by
  have through : (e.rechecked d).memories = (e.disturbed d).checkedRecords.memories := by
    simp only [Engine.rechecked, Engine.adjusted, Engine.checkedRegions]
  rw [through]
  exact ofFn_get _ m

/-- A region entry at the end of a warm reset: the entry where its code agrees, otherwise its power-on value (R160). -/
theorem rechecked_regions (d : Disturbance) (e : Engine) (ix : RegionIx) :
    (e.rechecked d).regions[ix] =
      if (e.disturbed d).regions[ix].codeAgrees then (e.disturbed d).regions[ix] else .powerOn := by
  have through : (e.rechecked d).regions = (e.disturbed d).checkedRecords.checkedRegions.regions := by
    simp only [Engine.rechecked, Engine.adjusted]
  have before : (e.disturbed d).checkedRecords.regions = (e.disturbed d).regions := by
    simp only [Engine.checkedRecords]
  rw [through, ← before]
  exact ofFn_get _ ix

/-- A range at the end of a warm reset: as it was where its region's code agrees, otherwise its power-on value (R160). -/
theorem rechecked_ranges (d : Disturbance) (e : Engine) (i : Fin 12) :
    (e.rechecked d).ranges[i] = if (e.disturbed d).regions[i.castSucc].codeAgrees then e.ranges[i] else .powerOn := by
  have through : (e.rechecked d).ranges = (e.disturbed d).checkedRecords.checkedRegions.ranges := by
    simp only [Engine.rechecked, Engine.adjusted]
  have regions : (e.disturbed d).checkedRecords.regions = (e.disturbed d).regions := by
    simp only [Engine.checkedRecords]
  have ranges : (e.disturbed d).checkedRecords.ranges = e.ranges := by
    simp only [Engine.checkedRecords, Engine.disturbed]
  rw [through, ← regions, ← ranges]
  exact ofFn_get _ i

theorem memoriesOwned_of_resets {s t : State} (r : ResetsRetained s t) (h : MemoriesOwned s) : MemoriesOwned t := by
  cases r with
  | powerOn engine =>
    refine memoriesOwned_iff.mpr fun a c e => ?_
    cases a <;> simp [State.coreAt, engine, Engine.powerOn] at e
  | asserted engine =>
    exact h.of_within (keysWithin_of_same (by rw [engine]; rfl) (by rw [engine]; rfl)) (by rw [engine]; rfl)
  | checked d engine =>
    have entry {c : RecordCore} (kept : recordKept (s.engine.disturbed d) c = true)
        (owned : s.engine.owned c.key) : t.engine.owned c.key := by
      rw [Engine.owned, engine, rechecked_memories, if_pos ((recordKept_iff _ _).mp kept).1, disturbed_memories]
      exact owned
    refine ⟨fun i q e => ?_, fun i q e => ?_⟩ <;> rw [engine] at e
    · obtain ⟨r, b, at_, kept, rfl⟩ := rechecked_cTable e
      show t.engine.owned ({ r with core := r.core.disturbed b } : CRecord).adjusted.core.key
      rw [CRecord.adjusted_key]
      exact entry kept (h.1 i r at_)
    · obtain ⟨r, b, at_, kept, rfl⟩ := rechecked_sTable e
      exact entry kept (h.2 i r at_)

theorem MemoryEntry.powerOn_lawful : MemoryEntry.powerOn.codeAgrees = true ∧ MemoryEntry.powerOn.inRange :=
  ⟨rfl, by decide, le_refl _⟩

theorem Region.powerOn_lawful :
    Region.powerOn.codeAgrees = true ∧ Region.powerOn.policy.inRange ∧ Region.powerOn.lawful :=
  ⟨rfl, ⟨by decide, by decide⟩, Region.lawful_cleared rfl rfl rfl⟩

theorem Settings.powerOn_lawful : Settings.powerOn.codeAgrees = true ∧ Settings.powerOn.inRange :=
  ⟨rfl, by decide, by decide, by decide, by decide⟩

theorem entriesLawful_powerOn {t : State} (engine : t.engine = .powerOn) (settings : t.win.settings = .powerOn) :
    EntriesLawful t := by
  constructor
  · intro m
    have entry : t.engine.memories[m] = .powerOn := by
      rw [engine]
      exact Vector.getElem_replicate _
    rw [entry]
    exact MemoryEntry.powerOn_lawful
  · intro i
    have entry : t.engine.ranges[i] = .powerOn := by
      rw [engine]
      exact Vector.getElem_replicate _
    rw [entry]
    exact BitVec.le_refl _
  · intro ix
    have entry : t.engine.regions[ix] = .powerOn := by
      rw [engine]
      exact Vector.getElem_replicate _
    rw [entry]
    exact Region.powerOn_lawful
  · rw [settings]
    exact Settings.powerOn_lawful

theorem warmReset_regions (e : Engine) (ix : RegionIx) :
    e.warmReset.regions[ix] = { e.regions[ix] with counts := .atReset } := ofFn_get _ ix

theorem entriesLawful_of_resets {s t : State} (r : ResetsRetained s t) (h : EntriesLawful s) : EntriesLawful t := by
  obtain ⟨memories, ranges, regions, settings⟩ := h
  cases r with
  | powerOn engine settings => exact entriesLawful_powerOn engine settings
  | asserted engine same =>
    refine ⟨by rw [engine]; exact memories, by rw [engine]; exact ranges, fun ix => ?_, by rw [same]; exact settings⟩
    obtain ⟨code, range, -⟩ := regions ix
    rw [engine, warmReset_regions]
    exact ⟨code, range, Region.lawful_cleared rfl rfl rfl⟩
  | checked d engine checked =>
    constructor
    · intro m
      rw [engine, rechecked_memories]
      split
      next code =>
        rw [disturbed_memories] at *
        exact ⟨code, (memories m).2⟩
      next => exact MemoryEntry.powerOn_lawful
    · intro i
      rw [engine, rechecked_ranges]
      split
      next => exact ranges i
      next => exact BitVec.le_refl _
    · intro ix
      rw [engine, rechecked_regions]
      split
      next code =>
        rw [disturbed_regions] at *
        exact ⟨code, (regions ix).2⟩
      next => exact Region.powerOn_lawful
    · rw [checked, Settings.rechecked, Settings.checked]
      split
      next code => exact ⟨code, settings.2⟩
      next => exact Settings.powerOn_lawful

/-! ## Every step -/

/-- Settles O58: the codes of records, the owners of their memories, and the laws of the other entries are each kept by
every move of the engine and by the reset inputs. -/
theorem retainedAndPolicyLawsKept : Obligations.RetainedAndPolicyLawsKept := by
  unfold Obligations.RetainedAndPolicyLawsKept
  intro s t retained policy h
  obtain ⟨coded, owned, entries⟩ := retained_and_policy_iff.mp ⟨retained, policy⟩
  exact retained_and_policy_iff.mpr
    ⟨step_keeps (fun _ _ => recordsCoded_of_move) (fun _ _ => recordsCoded_of_resets) h coded,
      step_keeps (fun _ _ => memoriesOwned_of_move) (fun _ _ => memoriesOwned_of_resets) h owned,
      step_keeps (fun _ _ => entriesLawful_of_move) (fun _ _ => entriesLawful_of_resets) h entries⟩

end Sys2Proof.Machine
end

section
/-! SUPPORT. The state after reset and the rows of PORST, and the posting of notices. -/

namespace Sys2Proof.Machine

/-! ## The state after reset -/

theorem coreAt_reset (a : RecRef) : State.reset.coreAt a = none := by
  cases a <;> simp [State.coreAt, State.reset, Engine.powerOn]

theorem ports_reset (ix : PortIx) : State.reset.ports[ix] = .atReset := Vector.getElem_replicate _

theorem handovers_reset (ix : PortIx) : State.reset.sched.handovers[ix] = [] := Vector.getElem_replicate _

theorem queuesBounded_reset : QueuesBounded State.reset := by
  refine ⟨fun ix => ?_, Nat.zero_le _, Nat.zero_le _⟩
  rw [ports_reset]
  exact Nat.zero_le _

theorem noticesLawful_reset : NoticesLawful State.reset :=
  ⟨fun k h => absurd h (Nat.not_lt_zero k), fun _ h => nomatch h⟩

theorem keysUnique_reset : KeysUnique State.reset :=
  keysUnique_iff.mpr fun a _ _ _ h => by rw [coreAt_reset] at h; cases h

theorem pinnedCounted_reset : PinnedCounted State.reset :=
  pinnedCounted_iff.mpr ⟨pinsIn_empty.symm, Nat.zero_le _⟩

theorem jobsMatchRecords_reset : JobsMatchRecords State.reset := by
  refine ⟨List.nodup_nil, nofun, fun i r e => ?_, List.nodup_nil, fun slot => ⟨nofun, fun ⟨_, h, _⟩ => nomatch h⟩,
    nofun⟩
  have empty : State.reset.engine.cTable[i] = none := Vector.getElem_replicate _
  rw [empty] at e
  cases e

theorem jobsLawful_reset : JobsLawful State.reset := by
  refine ⟨jobsMatchRecords_reset, rfl, ⟨nofun, fun ix h => ?_⟩, nofun, ⟨List.nodup_nil, nofun, ?_⟩, ?_, nofun⟩
  · rw [ports_reset] at h
    exact absurd rfl h
  · intro ix id tag m a h
    rw [handovers_reset] at h
    cases h
  · intro ix
    rw [handovers_reset]
    exact Nat.zero_le _

theorem retained_and_policy_reset : RetainedLawful State.reset ∧ PolicyLawful State.reset := by
  refine retained_and_policy_iff.mpr ⟨fun a c e => ?_, memoriesOwned_iff.mpr fun a c e => ?_,
    entriesLawful_powerOn rfl rfl⟩ <;> rw [coreAt_reset] at e <;> cases e

theorem windowLawful_reset : WindowLawful State.reset := ⟨⟨nofun, fun h => absurd rfl h⟩, nofun⟩

theorem escalationLawful_reset : EscalationLawful State.reset :=
  ⟨fun h => absurd rfl h, fun h => absurd rfl h, nofun, nofun, fun _ h => absurd rfl h⟩

theorem heldAtReset_reset : HeldAtReset State.reset := ⟨nofun, nofun⟩

/-- Settles O60: at reset the tables, queues and lists are empty and the entries stand at their power-on values. -/
theorem lawsHoldAtReset : Obligations.LawsHoldAtReset := by
  unfold Obligations.LawsHoldAtReset
  obtain ⟨retained, policy⟩ := retained_and_policy_reset
  exact ⟨queuesBounded_reset, noticesLawful_reset, recordsLawful_of_empty rfl rfl, keysUnique_reset,
    pinnedCounted_reset, jobsLawful_reset, retained, policy, windowLawful_reset, escalationLawful_reset,
    heldAtReset_reset⟩

/-! ## The rows of PORST, and the release of WRST -/

/-- The release of WRST changes only the inputs where no warm reset is in progress (R155, R157). -/
theorem releaseWrst_idle {s : State} (d : Disturbance)
    (h : s.resets.wrst = false ∨ s.resets.warm = false ∨ s.resets.porst = true) :
    releaseWrst d s = s.setResets { s.resets with wrst := false, warm := false } := by
  have idle : (s.resets.wrst && s.resets.warm && !s.resets.porst) = false := by
    rcases h with h | h | h <;> simp [h]
  unfold releaseWrst
  dsimp only
  rw [idle]
  rfl

/-- Settles O51: the power-on values as the model spells them, and the rows of the reset inputs that make no checks. -/
theorem powerOnResetClearsEverything : Obligations.PowerOnResetClearsEverything := by
  unfold Obligations.PowerOnResetClearsEverything
  refine ⟨rfl, fun s => ⟨rfl, ⟨releasePorst s, rfl, rfl, ?_⟩, fun d h => ?_⟩⟩
  · show (false || s.resets.wrst) = false ↔ _
    rw [Bool.false_or]
  · show Host.Outcome.next (releaseWrst d s) = _
    rw [releaseWrst_idle d h]
    rfl

/-! ## Posting a notice -/

/-- A notice enters at the tail while the queue has room (R128, R129). -/
theorem post_room {s : State} (h : s.notices.entries.length < 16) (body : NoticeBody) (dated : Bool) :
    post body dated s = enterNotice body dated s := by
  unfold post
  rw [if_pos ((noticeRoom_iff s).mpr h)]

/-- A notice is lost where 16 are queued; one that carries a deadline hands an UNPOSTABLE cause (R131, R132). -/
theorem post_full {s : State} (h : 16 ≤ s.notices.entries.length) (body : NoticeBody) (dated : Bool) :
    post body dated s = if dated then takeCause .unpostable none body.key (loseNotice s) else loseNotice s := by
  unfold post
  rw [if_neg (mt (noticeRoom_iff s).mp (Nat.not_lt.mpr h))]

theorem postedSeq_eq (s : State) :
    postedSeq s = if s.notices.entries.length < 16 then some s.notices.nextSeq else none := by
  unfold postedSeq
  simp only [noticeRoom_iff]

theorem armed_eq {w : Nat} (stamp : Stamp) (period : BitVec w) : armed stamp period = stamp + period.setWidth 32 := by
  unfold armed
  rw [BitVec.ofNat_toNat]

theorem satInc_byte (x : Byte) : satInc x = if x = 255 then 255 else x + 1 := by
  have top : BitVec.allOnes 8 = 255 := by decide
  unfold satInc
  rw [top]
  split
  next e => exact e
  next => rfl

/-- The count of lost notices rises up to 255 (R131). -/
theorem loseNotice_eq (s : State) : loseNotice s = { s with notices := { s.notices with
    lost := if s.notices.lost = 255 then 255 else s.notices.lost + 1 } } := by
  rw [loseNotice, satInc_byte]
  rfl

/-- Settles O42: a notice enters or is lost, and the severe class decides what a SEVERE notice carries. -/
theorem postEntersOrLosesNotice : Obligations.PostEntersOrLosesNotice := by
  unfold Obligations.PostEntersOrLosesNotice
  refine ⟨fun body => by cases body <;> rfl, fun s body dated => ⟨fun room => ?_, fun full => ⟨?_, ?_⟩, ?_⟩⟩
  · rw [post_room room, enterNotice, noticeAt, armed_eq]
    rfl
  · rw [post_full full, if_neg nofun, loseNotice_eq]
  · rw [post_full full, if_pos rfl, loseNotice_eq]
  · intro ref core repeated
    dsimp only
    split
    next c => rw [postSevere, State.policy, c]
    next c => rw [postSevere, State.policy, c]
    next c => rw [postSevere, State.policy, c, postedSeq_eq]

end Sys2Proof.Machine
end

section
/-! SUPPORT. The record commands of the host: the record and the version that the parameters name, the checks in their
order, and each command's own part. -/

namespace Sys2Proof.Machine

/-! ## The record and the version named -/

theorem lowByte_toNat {w : Word} (h : w.toNat ≤ 255) : (lowByte w).toNat = w.toNat := by
  unfold lowByte
  rw [BitVec.extractLsb'_toNat, Nat.shiftRight_zero, Nat.mod_eq_of_lt (by omega)]

theorem namedRecord_c {s : State} {slot : CSlot} (ht : lowByte s.win.params[0] = 0)
    (hs : s.win.params[1].toNat = slot.val) : namedRecord s = some (.c slot) := by
  have word : wordBelow 32 (s.param 1) = some slot := wordBelow_some hs
  show slotOf (lowByte s.win.params[0]) (s.param 1) = _
  rw [slotOf, if_pos ht, word]
  rfl

theorem namedRecord_s {s : State} {slot : SSlot} (ht : lowByte s.win.params[0] = 1)
    (hs : s.win.params[1].toNat = slot.val) : namedRecord s = some (.s slot) := by
  have word : wordBelow 16 (s.param 1) = some slot := wordBelow_some hs
  show slotOf (lowByte s.win.params[0]) (s.param 1) = _
  rw [slotOf, ht, if_neg (by decide), if_pos rfl, word]
  rfl

/-- The parameters name no C slot: the table is not the C-table or the slot is out of range (R24). -/
theorem namedRecord_ne_c {s : State} (h : lowByte s.win.params[0] ≠ 0 ∨ 31 < s.win.params[1].toNat) (slot : CSlot) :
    namedRecord s ≠ some (.c slot) := by
  show slotOf (lowByte s.win.params[0]) s.win.params[1] ≠ _
  unfold slotOf
  split
  next table =>
    rw [wordBelow_none (h.resolve_left (not_not_intro table))]
    exact nofun
  next =>
    split
    · cases wordBelow 16 s.win.params[1] <;> exact nofun
    · exact nofun

/-- The parameters name no S slot: the table is not the S-table or the slot is out of range (R24). -/
theorem namedRecord_ne_s {s : State} (h : lowByte s.win.params[0] ≠ 1 ∨ 15 < s.win.params[1].toNat) (slot : SSlot) :
    namedRecord s ≠ some (.s slot) := by
  show slotOf (lowByte s.win.params[0]) s.win.params[1] ≠ _
  unfold slotOf
  split
  next => cases wordBelow 32 s.win.params[1] <;> exact nofun
  next =>
    split
    next table =>
      rw [wordBelow_none (h.resolve_left (not_not_intro table))]
      exact nofun
    next => exact nofun

theorem namedRecord_eq_none {s : State} (hc : lowByte s.win.params[0] ≠ 0 ∨ 31 < s.win.params[1].toNat)
    (hs : lowByte s.win.params[0] ≠ 1 ∨ 15 < s.win.params[1].toNat) : namedRecord s = none := by
  cases e : namedRecord s with
  | none => rfl
  | some ref =>
    cases ref with
    | c slot => exact absurd e (namedRecord_ne_c hc slot)
    | s slot => exact absurd e (namedRecord_ne_s hs slot)

theorem versionParam_none {s : State} (h : 255 < s.win.params[2].toNat) : versionParam s = none :=
  if_neg (Nat.not_lt.mpr h)

theorem versionParam_some {s : State} (h : s.win.params[2].toNat ≤ 255) :
    versionParam s = some (lowByte s.win.params[2]) := if_pos (Nat.lt_succ_of_le h)

/-- The version given is the one whose number PARAM2 holds (R180). -/
theorem versionParam_eq {s : State} {v : Byte} (h : s.win.params[2].toNat = v.toNat) : versionParam s = some v := by
  have small : s.win.params[2].toNat ≤ 255 := by
    have := v.isLt
    omega
  rw [versionParam_some small, BitVec.eq_of_toNat_eq ((lowByte_toNat small).trans h)]

/-! ## The checks on the record named -/

theorem onVersionC_empty {slot : CSlot} {s : State} (h : s.engine.cTable[slot] = none) (v : Byte)
    (own : CRecord → State → State) : onVersionC slot v own s = complete .notFound none s := by
  rw [onVersionC, h]

theorem onVersionC_stale {slot : CSlot} {s : State} {r : CRecord} (h : s.engine.cTable[slot] = some r) {v : Byte}
    (hv : r.core.version ≠ v) (own : CRecord → State → State) : onVersionC slot v own s = complete .stale none s := by
  rw [onVersionC, h]
  exact if_neg hv

theorem onVersionC_own {slot : CSlot} {s : State} {r : CRecord} (h : s.engine.cTable[slot] = some r)
    (own : CRecord → State → State) : onVersionC slot r.core.version own s = own r s := by
  rw [onVersionC, h]
  exact if_pos rfl

theorem onVersionS_empty {slot : SSlot} {s : State} (h : s.engine.sTable[slot] = none) (v : Byte)
    (own : SRecord → State → State) : onVersionS slot v own s = complete .notFound none s := by
  rw [onVersionS, h]

theorem onVersionS_stale {slot : SSlot} {s : State} {r : SRecord} (h : s.engine.sTable[slot] = some r) {v : Byte}
    (hv : r.core.version ≠ v) (own : SRecord → State → State) : onVersionS slot v own s = complete .stale none s := by
  rw [onVersionS, h]
  exact if_neg hv

theorem onVersionS_own {slot : SSlot} {s : State} {r : SRecord} (h : s.engine.sTable[slot] = some r)
    (own : SRecord → State → State) : onVersionS slot r.core.version own s = own r s := by
  rw [onVersionS, h]
  exact if_pos rfl

/-! ## The commands on a record named -/

theorem exec_retireRecord {s : State} (h : Waiting .retireRecord .engine s) :
    exec .retireRecord s = .next (retireRecord s) := congrArg _ (takeByOwner_waiting h)

theorem exec_pinRecord {s : State} (h : Waiting .pinRecord .engine s) :
    exec .pinRecord s = .next (pinRecord s) := congrArg _ (takeByOwner_waiting h)

theorem exec_unpinRecord {s : State} (h : Waiting .unpinRecord .engine s) :
    exec .unpinRecord s = .next (unpinRecord s) := congrArg _ (takeByOwner_waiting h)

theorem exec_settleRecord {s : State} (h : Waiting .settleRecord .engine s) :
    exec .settleRecord s = .next (settleRecord s) := congrArg _ (takeByOwner_waiting h)

theorem exec_fetchRecord {s : State} (h : Waiting .fetchRecord .engine s) :
    exec .fetchRecord s = .next (fetchRecord s) := congrArg _ (takeByOwner_waiting h)

theorem exec_findRecord {s : State} (h : Waiting .findRecord .engine s) :
    exec .findRecord s = .next (findRecord s) := congrArg _ (takeByOwner_waiting h)

theorem exec_clearTables {s : State} (h : Waiting .clearTables .engine s) :
    exec .clearTables s = .next (clearTables s) := congrArg _ (takeByOwner_waiting h)

theorem exec_verifyRecord {s : State} (h : Waiting .verifyRecord .engine s) :
    exec .verifyRecord s = verifyRecord s := by
  show execVerifyRecord s = _
  have pending : s.isPending .verifyRecord .engine = true := by
    rw [State.isPending, h.2]
    rfl
  rw [execVerifyRecord, h.1, pending]
  rfl

theorem retireRecord_c {s : State} {slot : CSlot} {v : Byte} (hn : namedRecord s = some (.c slot))
    (hv : versionParam s = some v) :
    retireRecord s = onVersionC slot v (fun r s => complete .ok none (removeC slot r s)) s := by
  rw [retireRecord, hn, hv]

theorem retireRecord_s {s : State} {slot : SSlot} {v : Byte} (hn : namedRecord s = some (.s slot))
    (hv : versionParam s = some v) :
    retireRecord s = onVersionS slot v (fun _ s => complete .ok none (s.dropS slot)) s := by
  rw [retireRecord, hn, hv]

theorem pinRecord_c {s : State} {slot : CSlot} {v : Byte} (hn : namedRecord s = some (.c slot))
    (hv : versionParam s = some v) : pinRecord s = onVersionC slot v (pinOwn slot) s := by
  rw [pinRecord, hn, hv]

theorem unpinRecord_c {s : State} {slot : CSlot} {v : Byte} (hn : namedRecord s = some (.c slot))
    (hv : versionParam s = some v) : unpinRecord s = onVersionC slot v (unpinOwn slot) s := by
  rw [unpinRecord, hn, hv]

theorem settleRecord_s {s : State} {slot : SSlot} {v : Byte} (hn : namedRecord s = some (.s slot))
    (hv : versionParam s = some v) : settleRecord s = onVersionS slot v (settleOwn slot) s := by
  rw [settleRecord, hn, hv]

theorem retireRecord_badParam {s : State} (h : namedRecord s = none ∨ versionParam s = none) :
    retireRecord s = complete .badParam none s := by
  unfold retireRecord
  split
  next hn hv => simp [hn, hv] at h
  next hn hv => simp [hn, hv] at h
  next => rfl

theorem pinRecord_badParam {s : State} (h : (∀ slot, namedRecord s ≠ some (.c slot)) ∨ versionParam s = none) :
    pinRecord s = complete .badParam none s := by
  unfold pinRecord
  split
  next hn hv => simp [hn, hv] at h
  next => rfl

theorem unpinRecord_badParam {s : State} (h : (∀ slot, namedRecord s ≠ some (.c slot)) ∨ versionParam s = none) :
    unpinRecord s = complete .badParam none s := by
  unfold unpinRecord
  split
  next hn hv => simp [hn, hv] at h
  next => rfl

theorem settleRecord_badParam {s : State} (h : (∀ slot, namedRecord s ≠ some (.s slot)) ∨ versionParam s = none) :
    settleRecord s = complete .badParam none s := by
  unfold settleRecord
  split
  next hn hv => simp [hn, hv] at h
  next => rfl

theorem verifyRecord_badParam {s : State} (h : ∀ slot, namedRecord s ≠ some (.c slot)) :
    verifyRecord s = .next (complete .badParam none s) := by
  unfold verifyRecord
  split
  next hn => exact absurd hn (h _)
  next => rfl

theorem verifyRecord_empty {s : State} {slot : CSlot} (hn : namedRecord s = some (.c slot))
    (h : s.engine.cTable[slot] = none) : verifyRecord s = .next (complete .notFound none s) := by
  simp only [verifyRecord, hn, h]

theorem fetchRecord_badParam {s : State} (h : namedRecord s = none) :
    fetchRecord s = complete .badParam none s := by
  simp only [fetchRecord, h]

theorem fetchRecord_emptyC {s : State} {slot : CSlot} (hn : namedRecord s = some (.c slot))
    (h : s.engine.cTable[slot] = none) : fetchRecord s = complete .notFound none s := by
  simp only [fetchRecord, hn, h]

theorem fetchRecord_emptyS {s : State} {slot : SSlot} (hn : namedRecord s = some (.s slot))
    (h : s.engine.sTable[slot] = none) : fetchRecord s = complete .notFound none s := by
  simp only [fetchRecord, hn, h]

theorem fetchRecord_c {s : State} {slot : CSlot} {r : CRecord} (hn : namedRecord s = some (.c slot))
    (h : s.engine.cTable[slot] = some r) :
    fetchRecord s = complete .ok (some (if s.win.params[0].getLsbD 8 then viewPage1 (.c slot) r.core
      else viewCRecord slot r (jobFor slot s.sched.jobs))) s := by
  simp only [fetchRecord, hn, h]
  rfl

theorem fetchRecord_s {s : State} {slot : SSlot} {r : SRecord} (hn : namedRecord s = some (.s slot))
    (h : s.engine.sTable[slot] = some r) :
    fetchRecord s = complete .ok (some (if s.win.params[0].getLsbD 8 then viewPage1 (.s slot) r.core
      else viewSRecord slot r)) s := by
  simp only [fetchRecord, hn, h]
  rfl

/-! ## The order of the checks -/

/-- RETIRE_RECORD, PIN_RECORD and UNPIN_RECORD of a C slot make the version checks, each ahead of its own part (R24). -/
theorem exec_onVersionC {i : Instr} {c : Command} {s : State} {slot : CSlot} {v : Byte}
    (hi : (i, c) ∈ [(Instr.retireRecord, Command.retireRecord), (.pinRecord, .pinRecord), (.unpinRecord, .unpinRecord)])
    (h : Waiting c .engine s) (hn : namedRecord s = some (.c slot)) (hv : versionParam s = some v) :
    ∃ own, exec i s = .next (onVersionC slot v own s) := by
  simp only [List.mem_cons, Prod.mk.injEq, List.not_mem_nil, or_false] at hi
  rcases hi with ⟨rfl, rfl⟩ | ⟨rfl, rfl⟩ | ⟨rfl, rfl⟩
  · exact ⟨_, by rw [exec_retireRecord h, retireRecord_c hn hv]⟩
  · exact ⟨_, by rw [exec_pinRecord h, pinRecord_c hn hv]⟩
  · exact ⟨_, by rw [exec_unpinRecord h, unpinRecord_c hn hv]⟩

/-- RETIRE_RECORD and SETTLE_RECORD of an S slot make the version checks, each ahead of its own part (R24). -/
theorem exec_onVersionS {i : Instr} {c : Command} {s : State} {slot : SSlot} {v : Byte}
    (hi : (i, c) ∈ [(Instr.retireRecord, Command.retireRecord), (.settleRecord, .settleRecord)])
    (h : Waiting c .engine s) (hn : namedRecord s = some (.s slot)) (hv : versionParam s = some v) :
    ∃ own, exec i s = .next (onVersionS slot v own s) := by
  simp only [List.mem_cons, Prod.mk.injEq, List.not_mem_nil, or_false] at hi
  rcases hi with ⟨rfl, rfl⟩ | ⟨rfl, rfl⟩
  · exact ⟨_, by rw [exec_retireRecord h, retireRecord_s hn hv]⟩
  · exact ⟨_, by rw [exec_settleRecord h, settleRecord_s hn hv]⟩

/-- A version other than the one in PARAM2. -/
theorem version_ne {v : Byte} {w : Word} (small : w.toNat ≤ 255) (h : v.toNat ≠ w.toNat) : v ≠ lowByte w :=
  fun e => h ((congrArg BitVec.toNat e).trans (lowByte_toNat small))

/-- Settles O9: the parameters are judged ahead of the slot, and the slot ahead of the version. -/
theorem recordCommandChecks : Obligations.RecordCommandChecks := by
  unfold Obligations.RecordCommandChecks
  intro s
  dsimp only
  refine ⟨fun w h => ?_, fun w h => ?_, fun w h => ?_, fun w h => ?_, fun w h => ?_, fun w h => ?_,
    fun slot ht hs => ⟨fun empty => ⟨fun w => ?_, fun w => ?_⟩, fun i c hi w small => ?_⟩,
    fun slot ht hs => ⟨fun empty w => ?_, fun i c hi w small => ?_⟩⟩
  · rw [exec_retireRecord w, retireRecord_badParam
      (h.imp (fun ⟨hc, hs⟩ => namedRecord_eq_none hc hs) versionParam_none)]
  · rw [exec_pinRecord w, pinRecord_badParam (h.imp namedRecord_ne_c versionParam_none)]
  · rw [exec_unpinRecord w, unpinRecord_badParam (h.imp namedRecord_ne_c versionParam_none)]
  · rw [exec_settleRecord w, settleRecord_badParam (h.imp namedRecord_ne_s versionParam_none)]
  · rw [exec_verifyRecord w, verifyRecord_badParam (namedRecord_ne_c h)]
  · rw [exec_fetchRecord w, fetchRecord_badParam (namedRecord_eq_none h.1 h.2)]
  · rw [exec_verifyRecord w, verifyRecord_empty (namedRecord_c ht hs) empty]
  · rw [exec_fetchRecord w, fetchRecord_emptyC (namedRecord_c ht hs) empty]
  · obtain ⟨own, run⟩ := exec_onVersionC hi w (namedRecord_c ht hs) (versionParam_some small)
    refine ⟨fun empty => ?_, fun r at_ other => ?_⟩
    · rw [run, onVersionC_empty empty]
    · rw [run, onVersionC_stale at_ (version_ne small other)]
  · rw [exec_fetchRecord w, fetchRecord_emptyS (namedRecord_s ht hs) empty]
  · obtain ⟨own, run⟩ := exec_onVersionS hi w (namedRecord_s ht hs) (versionParam_some small)
    refine ⟨fun empty => ?_, fun r at_ other => ?_⟩
    · rw [run, onVersionS_empty empty]
    · rw [run, onVersionS_stale at_ (version_ne small other)]

/-! ## PIN_RECORD, UNPIN_RECORD and SETTLE_RECORD -/

/-- Settles O12: the pinned flag and the limit of 24 decide (R28, R29). -/
theorem pinAndUnpinRecord : Obligations.PinAndUnpinRecord := by
  unfold Obligations.PinAndUnpinRecord
  intro s slot r ht hs at_ hv
  have name := namedRecord_c ht hs
  have version := versionParam_eq hv
  refine ⟨fun w => ?_, fun w => ?_⟩
  · rw [exec_pinRecord w, pinRecord_c name version, onVersionC_own at_, pinOwn, Config.pinLimit]
    refine ⟨fun pinned => ?_, fun unpinned full => ?_, fun unpinned room => ?_⟩
    · rw [if_pos pinned]
    · rw [if_neg (Bool.eq_false_iff.mp unpinned), if_pos full]
    · rw [if_neg (Bool.eq_false_iff.mp unpinned), if_neg (Nat.not_le.mpr room)]
      rfl
  · rw [exec_unpinRecord w, unpinRecord_c name version, onVersionC_own at_, unpinOwn]
    refine ⟨fun unpinned => ?_, fun pinned => ?_⟩
    · rw [if_neg (Bool.eq_false_iff.mp unpinned)]
    · rw [if_pos pinned]
      rfl

theorem settleOwn_settled {slot : SSlot} {r : SRecord} {s : State} (h : r.mode = .settled) :
    settleOwn slot r s = complete .already none s := by
  rw [settleOwn, h]

theorem settleOwn_opened {slot : SSlot} {r : SRecord} {s : State} (h : r.mode = .opened) :
    settleOwn slot r s =
      complete .ok none (s.putS slot { r with core := r.core.advanced, mode := .settled }) := by
  rw [settleOwn, h]

/-- A version is never its own successor, although it rolls (R6). -/
theorem version_succ_ne (v : Byte) : v + 1 ≠ v := by
  intro e
  have := congrArg BitVec.toNat e
  bv_omega

/-- Settles O13: the version advances with the settling, so the version first given is then stale (R24, R30). -/
theorem settleRecordSettlesOnce : Obligations.SettleRecordSettlesOnce := by
  unfold Obligations.SettleRecordSettlesOnce
  intro s slot r w ht hs at_ hv
  have run : exec .settleRecord s = .next (settleOwn slot r s) := by
    rw [exec_settleRecord w, settleRecord_s (namedRecord_s ht hs) (versionParam_eq hv), onVersionS_own at_]
  refine ⟨fun settled => ?_, fun opened => ⟨?_, fun again w' table params => ?_⟩⟩
  · rw [run, settleOwn_settled settled]
  · rw [run, settleOwn_opened opened]
    rfl
  · have name : namedRecord again = some (.s slot) := namedRecord_s (by rw [params]; exact ht) (by rw [params]; exact hs)
    have version : versionParam again = some r.core.version := versionParam_eq (by rw [params]; exact hv)
    have stands : again.engine.sTable[slot] = some { r with
        mode := .settled, core := { r.core with version := r.core.version + 1, codeAgrees := true } } := by
      rw [table]
      exact set_get_same _ _ _
    rw [exec_settleRecord w', settleRecord_s name version,
      onVersionS_stale stands (version_succ_ne r.core.version)]

end Sys2Proof.Machine
end

section
/-! SUPPORT. The removal of a C-record with its job, and of all records: what a withdrawal does to the verify queue and to
the hand-overs of each port. -/

namespace Sys2Proof.Machine

/-! ## A withdrawal -/

theorem toNat_eq_ite (b : Bool) : b.toNat = if b then 1 else 0 := by
  cases b <;> rfl

theorem withdraw_none {slot : CSlot} {s : State} (h : ∀ j ∈ s.sched.jobs, j.slot ≠ slot) : withdraw slot s = s := by
  have missing : jobFor slot s.sched.jobs = none :=
    List.find?_eq_none.mpr fun j hj => by simpa using h j hj
  rw [withdraw, missing]

/-- The state with one job out of the queue and out of the order of ANSWERED jobs. -/
def State.withoutJobAt (s : State) (before : List Job) (slot : CSlot) (after : List Job) : State :=
  { s with sched := { s.sched with
      jobs := before ++ after, answered := s.sched.answered.filter fun k => k != slot } }

/-- The job of a record leaves the queue and the order of ANSWERED jobs, and its port is told where R121 says so. -/
theorem withdraw_at {before after : List Job} {j : Job} {s : State} (h : JobAt before j after s) :
    withdraw j.slot s = withdrawalHandover j.mode (s.withoutJobAt before j.slot after) := by
  rw [withdraw, jobFor_at h]
  show withdrawalHandover j.mode (removeJob j.slot s) = _
  rw [removeJob, withoutJob_at h]
  rfl

/-- Settles O11: the record leaves its slot, and its job is withdrawn (R18, R27, R121). -/
theorem retireRecordRemoves : Obligations.RetireRecordRemoves := by
  unfold Obligations.RetireRecordRemoves
  intro s w
  refine ⟨fun slot r ht hs at_ hv => ?_, fun slot r ht hs at_ hv => ?_⟩
  · have run : exec .retireRecord s = .next (complete .ok none (withdraw slot (s.freedC slot r))) := by
      rw [exec_retireRecord w, retireRecord_c (namedRecord_c ht hs) (versionParam_eq hv), onVersionC_own at_]
      rfl
    refine ⟨fun free => ?_, fun before j after job same => ?_⟩
    · rw [run, withdraw_none (s := s.freedC slot r) free, State.freedC, toNat_eq_ite]
      rfl
    · subst same
      rw [run, withdraw_at (s := s.freedC j.slot r) job, State.freedC, toNat_eq_ite]
      cases j.mode with
      | queued offer => cases offer <;> rfl
      | inFlight port tag deadline cancel => cases cancel <;> rfl
      | answered => rfl
  · rw [exec_retireRecord w, retireRecord_s (namedRecord_s ht hs) (versionParam_eq hv), onVersionS_own at_]
    rfl

/-! ## All jobs withdrawn -/

/-- The tag of the cancel request that the withdrawal of a job hands a port, where it hands one (R121). -/
def JobMode.cancelFor (ix : PortIx) : JobMode → Option Tag
  | .queued (some (p, tag)) => if p = ix then some tag else none
  | .inFlight p tag _ none => if p = ix then some tag else none
  | _ => none

/-- The state with cancel requests placed behind those already handed to each port. -/
def State.withCancels (s : State) (tags : PortIx → List Tag) : State :=
  { s with sched := { s.sched with
      handovers := Vector.ofFn fun ix => s.sched.handovers[ix] ++ (tags ix).map Handover.cancel } }

theorem handovers_unchanged (s : State) : s.withCancels (fun _ => []) = s := by
  have same : (Vector.ofFn fun ix : PortIx => s.sched.handovers[ix] ++ [].map Handover.cancel) = s.sched.handovers :=
    vec_ext fun ix => (ofFn_get _ ix).trans (List.append_nil _)
  rw [State.withCancels, same]

/-- One cancel request handed to a port, as cancel requests handed to every port. -/
theorem handOver_eq_withCancels (p : PortIx) (tag : Tag) (s : State) :
    handOver p (.cancel tag) s = s.withCancels fun ix => (if p = ix then some tag else none).toList := by
  have same : s.sched.handovers.set p.val (s.sched.handovers[p] ++ [.cancel tag]) =
      Vector.ofFn fun ix : PortIx =>
        s.sched.handovers[ix] ++ (if p = ix then some tag else none).toList.map Handover.cancel := by
    refine vec_ext fun ix => ?_
    rw [set_get, ofFn_get]
    split
    next e =>
      subst e
      rfl
    next => exact (List.append_nil _).symm
  rw [handOver, same]
  rfl

/-- What the withdrawal of a job hands the ports, port by port (R121). -/
theorem withdrawalHandover_eq (m : JobMode) (s : State) :
    withdrawalHandover m s = s.withCancels fun ix => (m.cancelFor ix).toList := by
  unfold withdrawalHandover
  split
  · exact handOver_eq_withCancels _ _ s
  · exact handOver_eq_withCancels _ _ s
  all_goals exact (handovers_unchanged s).symm

theorem withCancels_withCancels (s : State) (a b : PortIx → List Tag) :
    (s.withCancels a).withCancels b = s.withCancels fun ix => a ix ++ b ix := by
  have same : (Vector.ofFn fun ix : PortIx =>
      (s.withCancels a).sched.handovers[ix] ++ (b ix).map Handover.cancel) =
      Vector.ofFn fun ix : PortIx => s.sched.handovers[ix] ++ (a ix ++ b ix).map Handover.cancel := by
    refine vec_ext fun ix => ?_
    rw [ofFn_get, ofFn_get, State.withCancels, ofFn_get, List.map_append, List.append_assoc]
  show ({ s.withCancels a with sched := { (s.withCancels a).sched with handovers := _ } } : State) = _
  rw [same]
  rfl

/-- The verify queue empty, with cancel requests handed for the jobs it held. -/
def State.queueCleared (s : State) (jobs : List Job) : State :=
  { s with sched := { s.sched with jobs := [], answered := [] } }.withCancels fun ix =>
    jobs.filterMap fun j : Job => j.mode.cancelFor ix

/-- Withdrawing every job of a queue, one after another, empties it and the order of ANSWERED jobs (R31, R121). -/
theorem foldl_withdraw {jobs : List Job} {s : State} (hq : s.sched.jobs = jobs) (unique : (jobs.map Job.slot).Nodup)
    (named : ∀ slot ∈ s.sched.answered, ∃ j ∈ jobs, j.slot = slot) :
    (jobs.map Job.slot).foldl (fun s slot => withdraw slot s) s = s.queueCleared jobs := by
  induction jobs generalizing s with
  | nil =>
    have none_answered : s.sched.answered = [] :=
      List.eq_nil_iff_forall_not_mem.mpr fun slot h => by
        obtain ⟨j, hj, -⟩ := named slot h
        cases hj
    have same : ({ s with sched := { s.sched with jobs := [], answered := [] } } : State) = s := by
      rw [← hq, ← none_answered]
    rw [State.queueCleared, same]
    exact (handovers_unchanged s).symm
  | cons j rest ih =>
    obtain ⟨fresh, unique⟩ := List.nodup_cons.mp unique
    have at_ : JobAt [] j rest s := ⟨hq, fun k hk same => fresh (List.mem_map.mpr ⟨k, hk, same⟩)⟩
    have first : withdraw j.slot s =
        (s.withoutJobAt [] j.slot rest).withCancels fun ix => (j.mode.cancelFor ix).toList := by
      rw [withdraw_at at_, withdrawalHandover_eq]
    have still_named : ∀ slot ∈ (withdraw j.slot s).sched.answered, ∃ k ∈ rest, k.slot = slot := by
      intro slot h
      rw [first] at h
      obtain ⟨h, other⟩ := List.mem_filter.mp h
      obtain ⟨k, hk, same⟩ := named slot h
      rcases List.mem_cons.mp hk with rfl | hk
      · simp [same] at other
      · exact ⟨k, hk, same⟩
    have after := ih (s := withdraw j.slot s) (by rw [first]; rfl) unique still_named
    rw [List.map_cons, List.foldl_cons, after, first]
    have joined (ix : PortIx) : (j.mode.cancelFor ix).toList ++ rest.filterMap (fun k => k.mode.cancelFor ix) =
        (j :: rest).filterMap fun k => k.mode.cancelFor ix := by
      rw [List.filterMap_cons]
      cases j.mode.cancelFor ix <;> rfl
    have tags := withCancels_withCancels { s with sched := { s.sched with jobs := [], answered := [] } }
      (fun ix => (j.mode.cancelFor ix).toList) (fun ix => rest.filterMap fun k => k.mode.cancelFor ix)
    exact tags.trans (congrArg _ (funext joined))

/-- Settles O14: every job is withdrawn, then both tables are emptied (R31). -/
theorem clearTablesEmpties : Obligations.ClearTablesEmpties := by
  unfold Obligations.ClearTablesEmpties
  intro s w
  rw [exec_clearTables w]
  refine ⟨fun run => by rw [clearTables, run], fun config unique named => ?_⟩
  refine ⟨Vector.ofFn fun ix => s.sched.jobs.filterMap fun j => j.mode.cancelFor ix, fun ix => ?_, ?_⟩
  · rw [ofFn_get]
    refine congrArg (List.filterMap · _) (funext fun j => ?_)
    cases j.mode with
    | queued offer => cases offer <;> rfl
    | inFlight port tag deadline cancel => cases cancel <;> rfl
    | answered => rfl
  · have withdrawn : withdrawAll s = s.queueCleared s.sched.jobs := foldl_withdraw rfl unique named
    have cleared : clearTables s = complete .ok none (s.queueCleared s.sched.jobs).emptied := by
      rw [clearTables, config, ← withdrawn]
      rfl
    rw [cleared]
    simp only [ofFn_get]
    rfl

end Sys2Proof.Machine
end

section
/-! SUPPORT. The words of the record views as fields side by side, and FETCH_RECORD and FIND_RECORD. -/

namespace Sys2Proof.Machine

/-! ## Fields side by side: each word is compared bit by bit -/

section
variable (slot kinds : BitVec 5) (region mem soft : BitVec 4) (attempts : BitVec 3) (last hard mode : BitVec 2)
  (b b' : Bool) (version : Byte) (first latest : BitVec 6)

theorem keyWord_c : fieldAt slot 8 ||| fieldAt region 4 ||| fieldAt mem 0 = (0#3 ++ slot) ++ (region ++ mem) := by
  refine word_ext fun i => ?_
  simp only [BitVec.getLsbD_or, fieldAt_getLsbD, BitVec.getLsbD_append]
  fin_cases i <;> simp

theorem keyWord_s :
    flagAt true 15 ||| fieldAt slot 8 ||| fieldAt region 4 ||| fieldAt mem 0 = (4#3 ++ slot) ++ (region ++ mem) := by
  refine word_ext fun i => ?_
  simp only [flagAt, BitVec.getLsbD_or, fieldAt_getLsbD, BitVec.getLsbD_append]
  fin_cases i <;> simp

theorem stateWord (state : BitVec 3) (high : BitVec 13) : fieldAt state 13 ||| fieldAt high 0 = state ++ high := by
  refine word_ext fun i => ?_
  simp only [BitVec.getLsbD_or, fieldAt_getLsbD, BitVec.getLsbD_append]
  fin_cases i <;> simp

theorem kindsWord_c :
    fieldAt version 0 ||| fieldAt kinds 8 ||| flagAt b 13 = 0#2 ++ BitVec.ofBool b ++ kinds ++ version := by
  refine word_ext fun i => ?_
  simp only [flagAt, BitVec.getLsbD_or, fieldAt_getLsbD, BitVec.getLsbD_append]
  fin_cases i <;> simp

theorem kindsWord_s :
    fieldAt version 0 ||| fieldAt kinds 8 ||| flagAt b 14 = 0#1 ++ BitVec.ofBool b ++ 0#1 ++ kinds ++ version := by
  refine word_ext fun i => ?_
  simp only [flagAt, BitVec.getLsbD_or, fieldAt_getLsbD, BitVec.getLsbD_append]
  fin_cases i <;> simp

theorem verdictWord : fieldAt soft 0 ||| fieldAt last 4 ||| fieldAt hard 6 ||| 0 = 0#8 ++ hard ++ last ++ soft := by
  refine word_ext fun i => ?_
  simp only [BitVec.getLsbD_or, fieldAt_getLsbD, BitVec.getLsbD_append]
  fin_cases i <;> simp

theorem verdictWord_job :
    fieldAt soft 0 ||| fieldAt last 4 ||| fieldAt hard 6 |||
        (fieldAt mode 8 ||| flagAt b 10 ||| fieldAt attempts 11) =
      0#2 ++ attempts ++ BitVec.ofBool b ++ mode ++ hard ++ last ++ soft := by
  refine word_ext fun i => ?_
  simp only [flagAt, BitVec.getLsbD_or, fieldAt_getLsbD, BitVec.getLsbD_append]
  fin_cases i <;> simp

theorem mastersWord :
    (fieldAt first 0 ||| flagAt b (0 + 6)) ||| (fieldAt latest 8 ||| flagAt b' (8 + 6)) =
      0#1 ++ BitVec.ofBool b' ++ latest ++ 0#1 ++ BitVec.ofBool b ++ first := by
  refine word_ext fun i => ?_
  simp only [flagAt, BitVec.getLsbD_or, fieldAt_getLsbD, BitVec.getLsbD_append]
  fin_cases i <;> simp

theorem versionWord : flagAt b 0 ||| fieldAt version 8 = version ++ 0#7 ++ BitVec.ofBool b := by
  refine word_ext fun i => ?_
  simp only [flagAt, BitVec.getLsbD_or, fieldAt_getLsbD, BitVec.getLsbD_append]
  fin_cases i <;> simp

theorem foundWord_c : fieldAt slot 8 = (0#3 ++ slot) ++ 0#8 := by
  refine word_ext fun i => ?_
  simp only [fieldAt_getLsbD, BitVec.getLsbD_append]
  fin_cases i <;> simp

theorem foundWord_s : flagAt true 15 ||| fieldAt slot 8 = (4#3 ++ slot) ++ 0#8 := by
  refine word_ext fun i => ?_
  simp only [flagAt, BitVec.getLsbD_or, fieldAt_getLsbD, BitVec.getLsbD_append]
  fin_cases i <;> simp

theorem lowByteWord : fieldAt version 0 = 0#8 ++ version := by
  refine word_ext fun i => ?_
  simp only [fieldAt_getLsbD, BitVec.getLsbD_append]
  fin_cases i <;> simp

end

theorem append_congr {v w : Nat} {x x' : BitVec v} {y y' : BitVec w} (hx : x = x') (hy : y = y') :
    x ++ y = x' ++ y' := by rw [hx, hy]

theorem viewOf_congr {a b c d e f g h a' b' c' d' e' f' g' h' : Word} (ha : a = a') (hb : b = b') (hc : c = c')
    (hd : d = d') (he : e = e') (hf : f = f') (hg : g = g') (hh : h = h') :
    viewOf a b c d e f g h = #v[a', b', c', d', e', f', g', h'] := by
  rw [ha, hb, hc, hd, he, hf, hg, hh, viewOf]

/-! ## The views as Tables 11-6 and 11-7 lay them out -/

/-- The word of the key and the region in both pages, by the table of the slot (Table 11-6). -/
theorem recordV0_c (slot : CSlot) (core : RecordCore) : recordV0 (.c slot) core =
    (0#3 ++ BitVec.ofNat 5 slot.val) ++ (BitVec.ofNat 4 core.region.val ++ BitVec.ofNat 4 core.key.mem.val) :=
  keyWord_c _ _ _

theorem recordV0_s (slot : SSlot) (core : RecordCore) : recordV0 (.s slot) core =
    (4#3 ++ BitVec.ofNat 5 slot.val) ++ (BitVec.ofNat 4 core.region.val ++ BitVec.ofNat 4 core.key.mem.val) :=
  keyWord_s _ _ _

theorem recordV6_none (r : CRecord) : recordV6 r none =
    0#8 ++ hardReasonCode r.hardReason ++ r.lastVerdict.code ++ r.softVerdicts := verdictWord _ _ _

theorem recordV6_some (r : CRecord) (j : Job) : recordV6 r (some j) =
    0#2 ++ j.attempts ++ BitVec.ofBool (j.cls = .urgent) ++ j.mode.code ++ hardReasonCode r.hardReason ++
      r.lastVerdict.code ++ r.softVerdicts := verdictWord_job _ _ _ _ _ _

/-! ## FIND_RECORD -/

theorem findRecord_badId {s : State} (h : 15 < s.win.params[0].toNat) : findRecord s = complete .badParam none s := by
  have none : wordBelow 16 (s.param 0) = .none := wordBelow_none h
  unfold findRecord
  dsimp only
  rw [none]

/-- The byte address that PARAM1 and PARAM2 give (R179). -/
def State.findAddr (s : State) : BitVec 32 := joinWords s.win.params[1] s.win.params[2]

theorem findAddr_toNat (s : State) :
    s.findAddr.toNat = s.win.params[1].toNat + 65536 * s.win.params[2].toNat := joinWords_toNat _ _

/-- FIND_RECORD looks the address up where the memory has an owner and holds it, and otherwise judges the parameters bad
(R26). -/
theorem findRecord_eq {s : State} {m : MemId} (h : s.win.params[0].toNat = m.val) :
    findRecord s = if s.engine.memories[m].owner.isSome && inMemory s.engine.memories[m] s.findAddr
      then findAddress m s.findAddr s else complete .badParam none s := by
  have some : wordBelow 16 (s.param 0) = .some m := wordBelow_some h
  unfold findRecord
  dsimp only
  rw [some]
  rfl

theorem findRecord_outside {s : State} {m : MemId} (h : s.win.params[0].toNat = m.val)
    (bad : s.engine.memories[m].owner = none ∨
      s.engine.memories[m].size ≤ s.findAddr.toNat / s.engine.memories[m].granuleSize.bytes) :
    findRecord s = complete .badParam none s := by
  rw [findRecord_eq h]
  refine if_neg fun ok => ?_
  obtain ⟨owned, within⟩ := Bool.and_eq_true_iff.mp ok
  rcases bad with unowned | outside
  · rw [unowned] at owned
    cases owned
  · exact absurd ((inMemory_iff _ _).mp within) (Nat.not_lt.mpr outside)

theorem findRecord_inside {s : State} {m : MemId} (h : s.win.params[0].toNat = m.val)
    (owned : s.engine.memories[m].owner ≠ none)
    (within : s.findAddr.toNat / s.engine.memories[m].granuleSize.bytes < s.engine.memories[m].size) :
    findRecord s = findAddress m s.findAddr s := by
  rw [findRecord_eq h]
  exact if_pos (Bool.and_eq_true_iff.mpr ⟨Option.isSome_iff_ne_none.mpr owned, (inMemory_iff _ _).mpr within⟩)

theorem keyOf_eq {s : State} {m : MemId} {addr : BitVec 32} {k : Key} (mem : k.mem = m)
    (granule : k.granule.toNat = addr.toNat / s.engine.memories[m].granuleSize.bytes) : s.keyOf m addr = k := by
  obtain ⟨_, g⟩ := k
  subst mem
  exact congrArg (Key.mk _) (BitVec.eq_of_toNat_eq ((granuleOf_toNat _ _).trans granule.symm))

theorem findAddress_c {s : State} {m : MemId} {addr : BitVec 32} {slot : CSlot} {r : CRecord}
    (h : s.findC (s.keyOf m addr) = some (slot, r)) :
    findAddress m addr s = complete .ok (some (viewFound (.c slot) r.core)) s := by
  unfold findAddress
  dsimp only
  rw [h]

theorem findAddress_s {s : State} {m : MemId} {addr : BitVec 32} {slot : SSlot} {r : SRecord}
    (hc : s.findC (s.keyOf m addr) = none) (h : s.findS (s.keyOf m addr) = some (slot, r)) :
    findAddress m addr s = complete .ok (some (viewFound (.s slot) r.core)) s := by
  unfold findAddress
  dsimp only
  rw [hc, h]

theorem findAddress_none {s : State} {m : MemId} {addr : BitVec 32} (hc : s.findC (s.keyOf m addr) = none)
    (hs : s.findS (s.keyOf m addr) = none) : findAddress m addr s = complete .notFound none s := by
  unfold findAddress
  dsimp only
  rw [hc, hs]

/-- Settles O10: what the two commands complete with, and the words of the four views. -/
theorem fetchAndFindRecordShowRecord : Obligations.FetchAndFindRecordShowRecord := by
  unfold Obligations.FetchAndFindRecordShowRecord
  refine ⟨fun s => ⟨fun w => ⟨fun slot r ht hs at_ => ?_, fun slot r ht hs at_ => ?_⟩, fun w => ?_⟩,
    fun slot r job => ?_, fun slot r => ?_, fun ref core => ⟨?_, ?_⟩⟩
  · rw [exec_fetchRecord w, fetchRecord_c (namedRecord_c ht hs) at_]
    exact ⟨fun page0 => by rw [page0]; rfl, fun page1 => by rw [page1]; rfl⟩
  · rw [exec_fetchRecord w, fetchRecord_s (namedRecord_s ht hs) at_]
    exact ⟨fun page0 => by rw [page0]; rfl, fun page1 => by rw [page1]; rfl⟩
  · rw [exec_findRecord w]
    refine ⟨fun bad => by rw [findRecord_badId bad], fun m hm => ⟨fun bad => ?_, fun k mem granule owned within => ?_⟩⟩
    · rw [findRecord_outside hm (by rw [findAddr_toNat]; exact bad)]
    · have key : s.keyOf m s.findAddr = k := keyOf_eq mem (by rw [findAddr_toNat]; exact granule)
      have run : findRecord s = findAddress m s.findAddr s :=
        findRecord_inside hm owned (by rw [findAddr_toNat, ← granule]; exact within)
      rw [run]
      refine ⟨fun slot r held => ?_, fun slot r held noC => ?_, fun absent => ?_⟩
      · rw [findAddress_c (key.symm ▸ findC_of_held held)]
      · rw [findAddress_s (key.symm ▸ findC_none noC) (key.symm ▸ findS_of_held held)]
      · rw [findAddress_none (key.symm ▸ findC_none absent.1) (key.symm ▸ findS_none absent.2)]
  · refine viewOf_congr (recordV0_c slot r.core) rfl ((stateWord _ _).trans (append_congr ?_ rfl)) rfl
      (kindsWord_c _ _ _) rfl ?_ rfl
    · cases r.mode <;> rfl
    · cases job with
      | none =>
        refine (recordV6_none r).trans (append_congr (append_congr (append_congr rfl ?_) ?_) rfl)
        · rcases r.hardReason with _ | reason
          · rfl
          · cases reason <;> rfl
        · cases r.lastVerdict <;> rfl
      | some j =>
        refine (recordV6_some r j).trans (append_congr (append_congr (append_congr
          (append_congr (append_congr rfl ?_) ?_) ?_) ?_) rfl)
        · cases j.cls <;> rfl
        · cases j.mode <;> rfl
        · rcases r.hardReason with _ | reason
          · rfl
          · cases reason <;> rfl
        · cases r.lastVerdict <;> rfl
  · refine viewOf_congr (recordV0_s slot r.core) rfl ((stateWord _ _).trans (append_congr ?_ rfl)) rfl
      ((kindsWord_s _ _ _).trans (append_congr (append_congr (append_congr (append_congr rfl ?_) rfl) rfl) rfl))
      rfl rfl rfl
    · cases r.mode <;> rfl
    · cases r.origin <;> rfl
  · refine viewOf_congr ?_ rfl rfl rfl rfl (mastersWord _ _ _ _) rfl (versionWord _ _)
    cases ref with
    | c slot => exact recordV0_c slot core
    | s slot => exact recordV0_s slot core
  · refine viewOf_congr ?_ (lowByteWord _) rfl rfl rfl rfl rfl rfl
    cases ref with
    | c slot => exact foundWord_c _
    | s slot => exact foundWord_s _

end Sys2Proof.Machine
end

section
/-! SUPPORT. The report update of a record, and the table effect of a report that is due and admitted. -/

namespace Sys2Proof.Machine

/-! ## The report update -/

/-- The bits of two kinds meet exactly where the kinds are the same (Table 11-6). -/
theorem Kind.bit_and_bit (a b : Kind) : a.bit &&& b.bit ≠ 0 ↔ b = a := by
  cases a <;> cases b <;> decide

theorem kinds_or_and (x b c : BitVec 5) : (x ||| b) &&& c ≠ 0 ↔ x &&& c ≠ 0 ∨ b &&& c ≠ 0 := by
  rw [BitVec.and_or_distrib_right]
  exact (not_congr BitVec.or_eq_zero_iff).trans not_and_or

theorem Kind.severe_iff (k : Kind) : k.severe = true ↔ k = .uncorr ∨ k = .addrChk := by
  cases k <;> decide

/-- A report that carries a master id sets the last master, and the first where it was absent (R5). -/
theorem RecordCore.updated_masters_some (c : RecordCore) {r : Report} {id : BitVec 6} (h : r.master = some id)
    (t : Stamp) : (c.updated r t).lastMaster = some id ∧ (c.updated r t).firstMaster = some (c.firstMaster.getD id) := by
  simp [RecordCore.updated, RecordCore.advanced, RecordCore.applied, RecordCore.withMaster, h]

theorem RecordCore.updated_masters_none (c : RecordCore) {r : Report} (h : r.master = none) (t : Stamp) :
    (c.updated r t).lastMaster = c.lastMaster ∧ (c.updated r t).firstMaster = c.firstMaster := by
  simp [RecordCore.updated, RecordCore.advanced, RecordCore.applied, RecordCore.withMaster, h]

theorem RecordCore.updated_version (c : RecordCore) (r : Report) (t : Stamp) :
    (c.updated r t).version = c.version + 1 := by
  simp [RecordCore.updated, RecordCore.advanced, RecordCore.applied, RecordCore.withMaster_eq]

theorem RecordCore.updated_firstStamp (c : RecordCore) (r : Report) (t : Stamp) :
    (c.updated r t).firstStamp = c.firstStamp := by
  simp [RecordCore.updated, RecordCore.advanced, RecordCore.applied, RecordCore.withMaster_eq]

theorem RecordCore.updated_syndrome (c : RecordCore) (r : Report) (t : Stamp) :
    (c.updated r t).syndrome = r.syndrome.or c.syndrome := rfl

/-- Settles O17, field by field. -/
theorem reportUpdateOfRecord : Obligations.ReportUpdateOfRecord := by
  unfold Obligations.ReportUpdateOfRecord
  refine ⟨fun kind => by cases kind <;> rfl, Kind.severe_iff, fun c rep stamp => ?_⟩
  refine ⟨?_, fun kind => ?_, rfl, c.updated_firstStamp rep stamp, c.updated_key rep stamp,
    c.updated_region rep stamp, ?_, fun id h => c.updated_masters_some h stamp,
    fun h => c.updated_masters_none h stamp, fun w h => ?_, fun h => ?_⟩
  · rw [RecordCore.updated_hits, satInc_toNat]
    rfl
  · rw [RecordCore.updated_kinds, kinds_or_and, Kind.bit_and_bit]
  · rw [RecordCore.updated_version, BitVec.toNat_add]
    rfl
  · rw [RecordCore.updated_syndrome, h]
    rfl
  · rw [RecordCore.updated_syndrome, h]
    rfl

/-! ## The tables as the table effect finds them -/

/-- The state on which a correctable report of a region that is not muted has its table effect: the report accepted and
burst-counted (R66). -/
def countedReport (ix : PortIx) (region : RegionIx) (s : State) : State :=
  burstCount region (acceptedReport ix region s)

@[simp] theorem countedReport_cTable (ix : PortIx) (region : RegionIx) (s : State) :
    (countedReport ix region s).engine.cTable = s.engine.cTable := burstCount_engine_cTable _ _

@[simp] theorem countedReport_sTable (ix : PortIx) (region : RegionIx) (s : State) :
    (countedReport ix region s).engine.sTable = s.engine.sTable := burstCount_engine_sTable _ _

@[simp] theorem countedReport_cFullArmed (ix : PortIx) (region : RegionIx) (s : State) :
    (countedReport ix region s).engine.cFullArmed = s.engine.cFullArmed := burstCount_engine_cFullArmed _ _

@[simp] theorem countedReport_time (ix : PortIx) (region : RegionIx) (s : State) :
    (countedReport ix region s).time = s.time := burstCount_time _ _

section
variable {s t : State} {k : Key}

theorem HeldInC.congr {slot : CSlot} {r : CRecord} (h : HeldInC k slot r s)
    (hc : t.engine.cTable = s.engine.cTable) (hs : t.engine.sTable = s.engine.sTable) : HeldInC k slot r t := by
  unfold HeldInC
  rwa [hc, hs]

theorem HeldInS.congr {slot : SSlot} {r : SRecord} (h : HeldInS k slot r s)
    (hs : t.engine.sTable = s.engine.sTable) : HeldInS k slot r t := by
  unfold HeldInS
  rwa [hs]

theorem KeyAbsent.congr (h : KeyAbsent k s) (hc : t.engine.cTable = s.engine.cTable)
    (hs : t.engine.sTable = s.engine.sTable) : KeyAbsent k t := by
  unfold KeyAbsent
  rwa [hc, hs]

theorem LowestFreeC.congr {slot : CSlot} (h : LowestFreeC slot s) (hc : t.engine.cTable = s.engine.cTable) :
    LowestFreeC slot t := by
  unfold LowestFreeC
  rwa [hc]

end

/-! ## The threshold check -/

/-- In COUNTING and UNVERIFIED the threshold check asks for a job where the threshold is reached (R14). -/
theorem thresholdCheck_asks {r : CRecord} (h : r.mode = .counting ∨ r.mode = .unverified) (slot : CSlot) (s : State) :
    thresholdCheck slot r s =
      if wantsJob (s.policy r.core.region) r && s.queueRoom then enterJob slot r .normal s else s := by
  rcases h with h | h <;> rw [thresholdCheck, h]

/-- In SUSPECT and HARD the threshold check changes nothing (R14). -/
theorem thresholdCheck_rests {r : CRecord} (h : ¬ (r.mode = .counting ∨ r.mode = .unverified)) (slot : CSlot)
    (s : State) : thresholdCheck slot r s = s := by
  unfold thresholdCheck
  split
  next c => exact absurd (.inl c) h
  next c => exact absurd (.inr c) h
  next => rfl
  next => rfl

/-- A job entered for the record just written into its slot stands at the tail of the queue (R106). -/
theorem enterJob_putC (slot : CSlot) (r : CRecord) (s : State) :
    enterJob slot r .normal (s.putC slot r) =
      (s.withC slot { r with core := r.core.recoded, mode := .suspect }).withNewJobs (s.sched.jobs ++
        [{ id := s.sched.nextJob, slot := slot, key := r.core.recoded.key, cls := .normal, attempts := 0,
           mode := .queued none }]) := by
  unfold enterJob State.putC State.withC
  simp only [State.setEngine_engine, set_set]
  rfl

/-- The threshold check enters a job at the tail of the queue exactly under the conditions of R14. -/
theorem thresholdCheck_putC (slot : CSlot) (r : CRecord) (s : State) :
    CheckedInto slot { r with core := r.core.recoded } s (thresholdCheck slot r (s.putC slot r)) := by
  have enters : EntersJob { r with core := r.core.recoded } s ↔ (r.mode = .counting ∨ r.mode = .unverified) ∧
      (wantsJob ((s.putC slot r).policy r.core.region) r && (s.putC slot r).queueRoom) = true := by
    rw [Bool.and_eq_true_iff, wantsJob_iff, queueRoom_iff, and_assoc]
    rfl
  rw [CheckedInto, enters]
  by_cases asks : r.mode = .counting ∨ r.mode = .unverified
  · rw [thresholdCheck_asks asks]
    refine ⟨fun ⟨_, job⟩ => ?_, fun no => ?_⟩
    · rw [if_pos job, enterJob_putC]
    · rw [if_neg fun job => no ⟨asks, job⟩]
      rfl
  · rw [thresholdCheck_rests asks]
    exact ⟨fun yes => absurd yes.1 asks, fun _ => rfl⟩

/-! ## Correctable reports -/

theorem applyCorrectable_s {k : Key} {slot : SSlot} {r : SRecord} {s : State} (h : HeldInS k slot r s)
    (region : RegionIx) (rep : Report) :
    applyCorrectable k region rep s = s.putS slot { r with core := r.core.updated rep s.time.stamp } := by
  rw [applyCorrectable, findS_of_held h]

theorem applyCorrectable_c {k : Key} {slot : CSlot} {r : CRecord} {s : State} (h : HeldInC k slot r s)
    (region : RegionIx) (rep : Report) : applyCorrectable k region rep s = updateC slot r rep s := by
  rw [applyCorrectable, findS_none h.2.2.2, findC_of_held h]

theorem applyCorrectable_absent {k : Key} {s : State} (h : KeyAbsent k s) (region : RegionIx) (rep : Report) :
    applyCorrectable k region rep s = recordC k region rep s := by
  rw [applyCorrectable, findS_none h.2, findC_none h.1]

section
variable {s : State} {ix : PortIx} {rep : Report} {k : Key} {region : RegionIx}

/-- A correctable report of an unmuted region, up to its table effect (R66). -/
theorem exec_correctable (due : ReportDue ix rep s) (admitted : Admitted ix rep k region s)
    (mild : rep.kind.severe = false) (unmuted : s.engine.regions[region].counts.muted = false) :
    exec .takeReport s = .next (applyCorrectable k region rep (countedReport ix region s)) :=
  execTakeReport_correctable due admitted mild unmuted

end

/-- Settles O18. -/
theorem correctableReportOnSRecord : Obligations.CorrectableReportOnSRecord := by
  unfold Obligations.CorrectableReportOnSRecord
  intro s ix rep k region slot r due admitted mild unmuted held
  rw [exec_correctable due admitted mild unmuted, applyCorrectable_s (held.congr (countedReport_sTable ix region s)),
    countedReport_time]
  rfl

/-- Settles O19: the record updated in its slot, then its threshold check. -/
theorem correctableReportOnCRecord : Obligations.CorrectableReportOnCRecord := by
  unfold Obligations.CorrectableReportOnCRecord
  intro s ix rep k region slot r due admitted mild unmuted held
  refine ⟨_, exec_correctable due admitted mild unmuted, ?_⟩
  rw [applyCorrectable_c (held.congr (countedReport_cTable ix region s) (countedReport_sTable ix region s)), updateC,
    countedReport_time]
  exact thresholdCheck_putC slot (r.updated rep s.time.stamp) (countedReport ix region s)

/-- A record created in a slot, with its threshold check (R15). -/
theorem createC_checked (slot : CSlot) (k : Key) (region : RegionIx) (rep : Report) (s : State) :
    CheckedInto slot (CRecord.ofReport k region rep s.time.stamp) s (createC slot k region rep s) :=
  thresholdCheck_putC slot (CRecord.ofReport k region rep s.time.stamp) s

/-- Settles O20: the lowest free slot takes the new record. -/
theorem correctableReportCreatesRecord : Obligations.CorrectableReportCreatesRecord := by
  unfold Obligations.CorrectableReportCreatesRecord
  intro s ix rep k region slot due admitted mild unmuted absent free
  refine ⟨_, exec_correctable due admitted mild unmuted, ?_⟩
  have created := createC_checked slot k region rep (countedReport ix region s)
  rw [countedReport_time] at created
  rw [applyCorrectable_absent (absent.congr (countedReport_cTable ix region s) (countedReport_sTable ix region s)),
    recordC, freeC_of_lowest (free.congr (countedReport_cTable ix region s))]
  exact created

/-! ## The full C-table -/

/-- Of a list whose earlier entries are younger and whose later ones are no older, the search keeps the one between
(R16). -/
theorem foldl_olderOf {stamp : Stamp} {before after : List (CSlot × CRecord)} {c : CSlot × CRecord}
    (hb : ∀ x ∈ before, age stamp x.2.core.lastStamp < age stamp c.2.core.lastStamp)
    (ha : ∀ x ∈ after, age stamp x.2.core.lastStamp ≤ age stamp c.2.core.lastStamp) :
    (before ++ c :: after).foldl (olderOf stamp) none = some c := by
  have taken : olderOf stamp (before.foldl (olderOf stamp) none) c = some c := by
    cases e : before.foldl (olderOf stamp) none with
    | none => rfl
    | some b =>
      rcases foldl_olderOf_mem e with mem | none
      · exact if_pos (hb b mem)
      · cases none
  have kept : ∀ l : List (CSlot × CRecord), (∀ x ∈ l, age stamp x.2.core.lastStamp ≤ age stamp c.2.core.lastStamp) →
      l.foldl (olderOf stamp) (some c) = some c := by
    intro l hl
    induction l with
    | nil => rfl
    | cons x l ih =>
      have stays : olderOf stamp (some c) x = some c := if_neg (Nat.not_lt.mpr (hl x List.mem_cons_self))
      rw [List.foldl_cons, stays]
      exact ih fun y hy => hl y (List.mem_cons_of_mem _ hy)
  rw [List.foldl_append, List.foldl_cons, taken, kept after ha]

/-- The evictable records stand in slot order (R16). -/
theorem evictables_rising (s : State) : s.evictables.Pairwise fun x y => x.1 < y.1 := by
  refine (List.pairwise_lt_finRange 32).filterMap _ fun i j lt x hx y hy => ?_
  have slot_of {i : CSlot} {x : CSlot × CRecord} (h : (match s.engine.cTable[i] with
      | some r => if r.evictable then some (i, r) else none
      | none => none) = some x) : x.1 = i := by
    split at h
    · split at h
      · cases h
        rfl
      · cases h
    · cases h
  rw [slot_of hx, slot_of hy]
  exact lt

/-- The evictable records before and after one of them in slot order. -/
theorem evictables_split {s : State} {slot : CSlot} {r : CRecord} (at_ : s.engine.cTable[slot] = some r)
    (ev : r.evictable = true) :
    ∃ before after, s.evictables = before ++ (slot, r) :: after ∧ ∀ x ∈ before, x.1 < slot := by
  obtain ⟨before, after, split⟩ := List.append_of_mem (mem_evictables.mpr ⟨at_, ev⟩)
  have rising := evictables_rising s
  rw [split, List.pairwise_append] at rising
  obtain ⟨-, -, lower⟩ := rising
  exact ⟨before, after, split, fun x hx => lower x hx _ List.mem_cons_self⟩

/-- The victim is the oldest evictable record, the lowest slot among equals (R16, R58). -/
theorem victim_of_oldest {s : State} {slot : CSlot} {r : CRecord} (at_ : s.engine.cTable[slot] = some r)
    (counting : r.mode = .counting) (unpinned : r.pinned = false)
    (oldest : ∀ (i : CSlot) (q : CRecord), s.engine.cTable[i] = some q → q.mode = .counting → q.pinned = false →
      (s.time.stamp - q.core.lastStamp).toNat ≤ (s.time.stamp - r.core.lastStamp).toNat ∧
        (i < slot → (s.time.stamp - q.core.lastStamp).toNat < (s.time.stamp - r.core.lastStamp).toNat)) :
    s.victim = some (slot, r) := by
  obtain ⟨before, after, split, lower⟩ := evictables_split at_ ((evictable_iff r).mpr ⟨counting, unpinned⟩)
  have compare (x : CSlot × CRecord) (hx : x ∈ s.evictables) :
      age s.time.stamp x.2.core.lastStamp ≤ age s.time.stamp r.core.lastStamp ∧
        (x.1 < slot → age s.time.stamp x.2.core.lastStamp < age s.time.stamp r.core.lastStamp) := by
    obtain ⟨stands, ev⟩ := mem_evictables.mp hx
    obtain ⟨mode, pin⟩ := (evictable_iff x.2).mp ev
    exact oldest x.1 x.2 stands mode pin
  rw [State.victim, split]
  refine foldl_olderOf (fun x hx => ?_) fun x hx => ?_
  · exact (compare x (split ▸ List.mem_append_left _ hx)).2 (lower x hx)
  · exact (compare x (split ▸ List.mem_append_right _ (List.mem_cons_of_mem _ hx))).1

theorem victim_none {s : State}
    (h : ∀ (i : CSlot) (r : CRecord), s.engine.cTable[i] = some r → r.mode ≠ .counting ∨ r.pinned = true) :
    s.victim = none := by
  cases e : s.victim with
  | none => rfl
  | some x =>
    obtain ⟨at_, counting, unpinned⟩ := victim_some (slot := x.1) (r := x.2) e
    rcases h _ _ at_ with other | pinned
    · exact absurd counting other
    · rw [unpinned] at pinned
      cases pinned

/-- Settles O21: the victim's slot takes the new record, or the report is unrecorded. -/
theorem correctableReportOnFullTable : Obligations.CorrectableReportOnFullTable := by
  unfold Obligations.CorrectableReportOnFullTable
  intro s ix rep k region due admitted mild unmuted absent full
  have sameC := countedReport_cTable ix region s
  have noFree : (countedReport ix region s).freeC = none := freeC_none (by rw [sameC]; exact full)
  have run : exec .takeReport s = .next (recordC k region rep (countedReport ix region s)) := by
    rw [exec_correctable due admitted mild unmuted,
      applyCorrectable_absent (absent.congr sameC (countedReport_sTable ix region s))]
  refine ⟨fun slot r at_ counting unpinned oldest => ⟨_, run, ?_⟩, fun noVictim => ?_⟩
  · have found : (countedReport ix region s).victim = some (slot, r) := by
      refine victim_of_oldest (by rw [sameC]; exact at_) counting unpinned ?_
      rw [sameC, countedReport_time]
      exact oldest
    have created := createC_checked slot k region rep (countEviction r.core.region (countedReport ix region s))
    rw [countEviction_time, countedReport_time] at created
    rw [recordC, noFree, found]
    exact created
  · have none : (countedReport ix region s).victim = none := victim_none (by rw [sameC]; exact noVictim)
    have armed := countedReport_cFullArmed ix region s
    have unrecorded : exec .takeReport s = .next (unrecordedC k region (countedReport ix region s)) := by
      rw [run, recordC, noFree, none]
    refine ⟨fun flag => ?_, fun flag => ?_⟩
    · rw [unrecorded, unrecordedC]
      dsimp only
      rw [if_neg (by rw [armed, flag]; exact nofun)]
      rfl
    · rw [unrecorded, unrecordedC]
      dsimp only
      rw [if_pos (armed.trans flag)]
      rfl

/-! ## Severe reports -/

theorem applySevere_s {k : Key} {slot : SSlot} {r : SRecord} {s : State} (h : HeldInS k slot r s) (region : RegionIx)
    (rep : Report) : applySevere k region rep s = updateS slot r rep s := by
  rw [applySevere, findS_of_held h]

theorem applySevere_promotes {k : Key} {slot : CSlot} {r : CRecord} {free : SSlot} {s : State}
    (h : HeldInC k slot r s) (room : LowestFreeS free s) (region : RegionIx) (rep : Report) :
    applySevere k region rep s = promote slot r free rep s := by
  rw [applySevere, findS_none h.2.2.2, findC_of_held h, freeS_of_lowest room]

theorem applySevere_creates {k : Key} {free : SSlot} {s : State} (h : KeyAbsent k s) (room : LowestFreeS free s)
    (region : RegionIx) (rep : Report) : applySevere k region rep s = createS free k region rep s := by
  rw [applySevere, findS_none h.2, findC_none h.1, freeS_of_lowest room]

theorem applySevere_overflows {k : Key} {s : State}
    (absent : ∀ (i : SSlot) (r : SRecord), s.engine.sTable[i] = some r → r.core.key ≠ k)
    (full : ∀ i : SSlot, s.engine.sTable[i] ≠ none) (region : RegionIx) (rep : Report) :
    applySevere k region rep s = overflowS k region s := by
  rw [applySevere, findS_none absent, freeS_none full]
  cases s.findC k <;> rfl

/-- Settles O22: an OPEN record is updated, a SETTLED one is reopened and announced again. -/
theorem severeReportOnSRecord : Obligations.SevereReportOnSRecord := by
  unfold Obligations.SevereReportOnSRecord
  intro s ix rep k region slot r due admitted severe held
  have at_ : HeldInS k slot r (acceptedReport ix region s) := held
  rw [execTakeReport_severe due admitted severe, applySevere_s at_, updateS]
  dsimp only
  refine ⟨fun opened => ?_, fun settled => ?_⟩
  · rw [opened]
    rfl
  · rw [settled]
    rfl

/-- Settles O23: what a withdrawal does, and the record moved to the S-table (R20, R121). -/
theorem severeReportPromotesCRecord : Obligations.SevereReportPromotesCRecord := by
  unfold Obligations.SevereReportPromotesCRecord
  refine ⟨fun s slot => ⟨withdraw_none, fun before j after job same => ?_⟩, ?_⟩
  · subst same
    rw [withdraw_at job]
    cases j.mode with
    | queued offer => cases offer <;> rfl
    | inFlight port tag deadline cancel => cases cancel <;> rfl
    | answered => rfl
  · intro s ix rep k region slot r free due admitted severe held room
    have at_ : HeldInC k slot r (acceptedReport ix region s) := held
    have lowest : LowestFreeS free (acceptedReport ix region s) := room
    rw [execTakeReport_severe due admitted severe, applySevere_promotes at_ lowest, promote]
    dsimp only
    rw [RecordCore.advanced_applied, removeC_eq, State.freedC, toNat_eq_ite]
    rfl

/-- Settles O24: the lowest free slot takes the new record. -/
theorem severeReportCreatesRecord : Obligations.SevereReportCreatesRecord := by
  unfold Obligations.SevereReportCreatesRecord
  intro s ix rep k region free due admitted severe absent room
  have missing : KeyAbsent k (acceptedReport ix region s) := absent
  have lowest : LowestFreeS free (acceptedReport ix region s) := room
  rw [execTakeReport_severe due admitted severe, applySevere_creates missing lowest]
  rfl

/-- Settles O25: the report is counted, announced and handed to the escalation unit. -/
theorem severeReportWithoutRoom : Obligations.SevereReportWithoutRoom := by
  unfold Obligations.SevereReportWithoutRoom
  intro s ix rep k region due admitted severe absent full
  have overflows := applySevere_overflows (s := acceptedReport ix region s) absent full region rep
  rw [execTakeReport_severe due admitted severe, overflows, overflowS]
  dsimp only
  rw [postedSeq_eq]
  rfl

end Sys2Proof.Machine
end

section
/-! SUPPORT. SET_MEMORY: what its parameters name, and its checks in their order. -/

namespace Sys2Proof.Machine

/-! ## What a parameter names -/

theorem wordBelow_iff {n : Nat} {w : Word} {i : Fin n} : wordBelow n w = some i ↔ w.toNat = i.val := by
  refine ⟨fun h => ?_, wordBelow_some⟩
  unfold wordBelow at h
  split at h
  · cases h
    rfl
  · cases h

/-- PARAM1 of SET_MEMORY names NONE by 00FFh and a port by its number (R36, check 3). -/
theorem ownerOf_iff {w : Word} {owner : Option PortIx} : ownerOf w = some owner ↔
    w = 0x00FF#16 ∧ owner = none ∨ ∃ p : PortIx, w.toNat = p.val ∧ owner = some p := by
  unfold ownerOf
  split
  next unowned =>
    rw [Option.some.injEq]
    refine ⟨fun same => .inl ⟨unowned, same.symm⟩, ?_⟩
    rintro (⟨-, rfl⟩ | ⟨p, number, -⟩)
    · rfl
    · rw [unowned] at number
      exact absurd (number ▸ p.isLt) (by decide)
  next owned =>
    rw [Option.map_eq_some_iff]
    constructor
    · rintro ⟨p, number, rfl⟩
      exact .inr ⟨p, wordBelow_iff.mp number, rfl⟩
    · rintro (⟨unowned, -⟩ | ⟨p, number, rfl⟩)
      · exact absurd unowned owned
      · exact ⟨p, wordBelow_iff.mpr number, rfl⟩

/-- PARAM2 of SET_MEMORY names a granule size by its bytes (R36, check 4). -/
theorem granuleSizeOf_iff {w : Word} {g : GranuleSize} : granuleSizeOf w = some g ↔ w.toNat = g.bytes := by
  refine ⟨fun h => ?_, granuleSizeOf_some⟩
  unfold granuleSizeOf at h
  split_ifs at h with e e e e e e e e e e
  all_goals
    cases h
    rw [e]
    rfl

/-- PARAM3 and PARAM4 of SET_MEMORY give a size from 1 to 2^29 (R36, check 5). -/
theorem sizeOf_iff {low high : Word} {size : Nat} : sizeOf low high = some size ↔
    low.toNat + 65536 * high.toNat = size ∧ 1 ≤ size ∧ size ≤ 2 ^ 29 := by
  have most : Config.maxGranules = 2 ^ 29 := rfl
  unfold sizeOf
  dsimp only
  rw [joinWords_toNat, most]
  split
  next range =>
    rw [Option.some.injEq]
    exact ⟨fun same => ⟨same, same ▸ range⟩, And.left⟩
  next outside => exact ⟨nofun, fun ⟨same, range⟩ => absurd (same ▸ range) outside⟩

/-- The parameters of SET_MEMORY name a memory and its new entry exactly where each of them names its part (R36). -/
theorem memoryParams_iff {s : State} {m : MemId} {owner : Option PortIx} {g : GranuleSize} {size : Nat} :
    memoryParams s = some (m, { owner := owner, granuleSize := g, size := size, codeAgrees := true }) ↔
      wordBelow 16 s.win.params[0] = some m ∧ ownerOf s.win.params[1] = some owner ∧
        granuleSizeOf s.win.params[2] = some g ∧ sizeOf s.win.params[3] s.win.params[4] = some size := by
  simp only [memoryParams, Option.bind_eq_bind, Option.bind_eq_some_iff, Option.some.injEq, Prod.mk.injEq,
    MemoryEntry.mk.injEq]
  constructor
  · rintro ⟨_, hm, _, ho, _, hg, _, hs, rfl, rfl, rfl, rfl, -⟩
    exact ⟨hm, ho, hg, hs⟩
  · rintro ⟨hm, ho, hg, hs⟩
    exact ⟨_, hm, _, ho, _, hg, _, hs, rfl, rfl, rfl, rfl, trivial⟩

/-- A parameter of SET_MEMORY out of its range makes the parameters bad (R36, checks 2 to 5). -/
theorem memoryParams_none {s : State}
    (bad : 15 < s.win.params[0].toNat ∨ (5 < s.win.params[1].toNat ∧ s.win.params[1] ≠ 0x00FF#16) ∨
      (∀ g : GranuleSize, s.win.params[2].toNat ≠ g.bytes) ∨
      s.win.params[3].toNat + 65536 * s.win.params[4].toNat = 0 ∨
      2 ^ 29 < s.win.params[3].toNat + 65536 * s.win.params[4].toNat) : memoryParams s = none := by
  refine Option.eq_none_iff_forall_ne_some.mpr fun ⟨m, e⟩ h => ?_
  obtain ⟨-, code⟩ := memoryParams_some h
  obtain ⟨owner, g, size, _⟩ := e
  subst code
  obtain ⟨hm, ho, hg, hs⟩ := memoryParams_iff.mp h
  obtain ⟨same, least, greatest⟩ := sizeOf_iff.mp hs
  rcases bad with id | ⟨port, notNone⟩ | bytes | zero | above
  · rw [wordBelow_iff.mp hm] at id
    exact absurd id (Nat.not_lt.mpr (Nat.le_of_lt_succ m.isLt))
  · rcases ownerOf_iff.mp ho with ⟨unowned, -⟩ | ⟨p, number, -⟩
    · exact notNone unowned
    · rw [number] at port
      exact absurd port (Nat.not_lt.mpr (Nat.le_of_lt_succ p.isLt))
  · exact bytes g (granuleSizeOf_iff.mp hg)
  · omega
  · omega

/-! ## The command -/

theorem exec_setMemory {s : State} (h : Waiting .setMemory .engine s) :
    exec .setMemory s = .next (setMemory s) := congrArg _ (takeByOwner_waiting h)

theorem setMemory_run {s : State} (run : s.engine.mode = .run) : setMemory s = complete .refusedState none s := by
  rw [setMemory, run]

theorem setMemory_badParam {s : State} (config : s.engine.mode = .config) (bad : memoryParams s = none) :
    setMemory s = complete .badParam none s := by
  rw [setMemory, config, bad]

/-- With good parameters a memory that is named is in use, and any other takes its new entry (R36, check 6). -/
theorem setMemory_params {s : State} {m : MemId} {e : MemoryEntry} (config : s.engine.mode = .config)
    (params : memoryParams s = some (m, e)) : setMemory s =
      if memoryInUse m s then complete .inUse none s else complete .ok none (s.setMemory m e) := by
  rw [setMemory, config, params]

/-- Settles O5: each parameter is read by what it names, and a good entry is written where no record or job names the
memory. -/
theorem setMemoryChecksAndWrites : Obligations.SetMemoryChecksAndWrites := by
  unfold Obligations.SetMemoryChecksAndWrites
  refine ⟨fun g => by cases g <;> rfl, fun s w => ?_⟩
  rw [exec_setMemory w]
  refine ⟨fun run => by rw [setMemory_run run],
    fun config bad => by rw [setMemory_badParam config (memoryParams_none bad)], ?_⟩
  intro m owner g size config hm ho hg same least greatest
  have params := memoryParams_iff.mpr
    ⟨wordBelow_iff.mpr hm, ownerOf_iff.mpr ho, granuleSizeOf_iff.mpr hg, sizeOf_iff.mpr ⟨same, least, greatest⟩⟩
  rw [setMemory_params config params]
  refine ⟨fun named => ?_, fun free => ?_⟩
  · rw [if_pos ((memoryInUse_iff m s).mpr named)]
  · rw [if_neg (mt (memoryInUse_iff m s).mp free)]
    rfl

end Sys2Proof.Machine
end

section
/-! SUPPORT. The commands on regions and a region's burst state: what the parameters of SET_REGION name and its checks in
their order, UNMUTE_REGION, burst counting and its decay. -/

namespace Sys2Proof.Machine

/-! ## What the parameters of SET_REGION name -/

/-- Two registers give a granule number up to 2^29 - 1 (R47, check 5). -/
theorem granuleParam_iff {low high : Word} {g : Granule} :
    granuleParam low high = some g ↔ low.toNat + 65536 * high.toNat = g.toNat := by
  have most : Config.maxGranules = 2 ^ 29 := rfl
  unfold granuleParam
  dsimp only
  rw [joinWords_toNat, most]
  split
  next below => rw [Option.some.injEq, ← BitVec.toNat_inj, BitVec.toNat_ofNat, Nat.mod_eq_of_lt below]
  next above => exact ⟨nofun, fun same => absurd (same ▸ g.isLt) above⟩

/-- PARAM4 of part POLICY names a severe class by its code (Table 11-5). -/
theorem severeClassOf_iff {w : Word} {cls : SevereClass} : severeClassOf w = some cls ↔ w = cls.code := by
  constructor
  · intro h
    unfold severeClassOf at h
    split_ifs at h with e e e
    all_goals
      cases h
      exact e
  · rintro rfl
    cases cls <;> rfl

theorem SevereClass.code_le (cls : SevereClass) : cls.code.toNat ≤ 2 := by
  cases cls <;> decide

/-- The range that PARAM1 to PARAM5 name, for a base not above the limit (R47, check 5). -/
theorem rangeParams_iff {s : State} {r : RegionRange} : rangeParams s = some r ↔
    (r.enabled = s.win.params[1].getLsbD 0 ∧ r.mem = (s.win.params[1].extractLsb' 8 4).toFin) ∧
      s.win.params[2].toNat + 65536 * s.win.params[3].toNat = r.base.toNat ∧
      s.win.params[4].toNat + 65536 * s.win.params[5].toNat = r.limit.toNat ∧ r.base ≤ r.limit := by
  simp only [rangeParams, Option.bind_eq_bind, Option.bind_eq_some_iff]
  constructor
  · rintro ⟨base, hb, limit, hl, h⟩
    split at h
    next le =>
      cases h
      exact ⟨⟨rfl, rfl⟩, granuleParam_iff.mp hb, granuleParam_iff.mp hl, le⟩
    next => cases h
  · rintro ⟨⟨enabled, mem⟩, hb, hl, le⟩
    refine ⟨r.base, granuleParam_iff.mpr hb, r.limit, granuleParam_iff.mpr hl, ?_⟩
    rw [if_pos le]
    obtain ⟨_, _, base, limit⟩ := r
    subst enabled mem
    rfl

/-- A bound above 2^29 - 1, or a base above the limit, makes the range bad (R47, check 5). -/
theorem rangeParams_none {s : State}
    (bad : 2 ^ 29 ≤ s.win.params[2].toNat + 65536 * s.win.params[3].toNat ∨
      2 ^ 29 ≤ s.win.params[4].toNat + 65536 * s.win.params[5].toNat ∨
      s.win.params[4].toNat + 65536 * s.win.params[5].toNat <
        s.win.params[2].toNat + 65536 * s.win.params[3].toNat) : rangeParams s = none := by
  refine Option.eq_none_iff_forall_ne_some.mpr fun r h => ?_
  obtain ⟨-, base, limit, le⟩ := rangeParams_iff.mp h
  rw [base, limit] at bad
  have ordered : r.base.toNat ≤ r.limit.toNat := le
  have below := r.base.isLt
  have below' := r.limit.isLt
  omega

/-- The policy that PARAM1 to PARAM4 give with a severe class, where their values are in their ranges (R47, check 6). -/
def State.policyGiven (s : State) (cls : SevereClass) : RegionPolicy :=
  { threshold := lowByte s.win.params[1], verifyEnable := s.win.params[2].getLsbD 15
    softLimit := s.win.params[1].extractLsb' 8 4, burstLimit := lowByte s.win.params[2]
    decayPeriod := s.win.params[3], severeClass := cls }

theorem policyParams_iff {s : State} {p : RegionPolicy} : policyParams s = some p ↔
    s.win.params[4] = p.severeClass.code ∧
      (lowByte s.win.params[1] ≠ 0 ∧ (highByte s.win.params[1]).toNat ≤ 15 ∧ s.win.params[3] ≠ 0) ∧
      p = s.policyGiven p.severeClass := by
  simp only [policyParams, Option.bind_eq_bind, Option.bind_eq_some_iff]
  constructor
  · rintro ⟨cls, hc, h⟩
    split at h
    next range =>
      cases h
      exact ⟨severeClassOf_iff.mp hc, range, rfl⟩
    next => cases h
  · rintro ⟨hc, range, same⟩
    refine ⟨p.severeClass, severeClassOf_iff.mpr hc, ?_⟩
    exact (if_pos range).trans (congrArg some same.symm)

/-- A policy value out of its range makes the policy bad (R47, check 6). -/
theorem policyParams_none {s : State}
    (bad : lowByte s.win.params[1] = 0 ∨ 15 < (highByte s.win.params[1]).toNat ∨ s.win.params[3] = 0 ∨
      2 < s.win.params[4].toNat) : policyParams s = none := by
  refine Option.eq_none_iff_forall_ne_some.mpr fun p h => ?_
  obtain ⟨code, ⟨threshold, soft, decay⟩, -⟩ := policyParams_iff.mp h
  rcases bad with zero | above | zero | above
  · exact threshold zero
  · exact absurd soft (Nat.not_le.mpr above)
  · exact decay zero
  · rw [code] at above
    exact absurd p.severeClass.code_le (Nat.not_le.mpr above)

/-- A byte above 2 names no part (Table 11-5). -/
theorem regionPartOf_none {b : Byte} (h : 2 < b.toNat) : regionPartOf b = none := by
  have other (c : Byte) (small : c.toNat ≤ 2) : b ≠ c := fun same => Nat.not_lt.mpr small (same ▸ h)
  rw [regionPartOf, if_neg (other 0 (by decide)), if_neg (other 1 (by decide)), if_neg (other 2 (by decide))]

/-- A byte above 1 names no part that SET_REGION writes (R47, check 3). -/
theorem regionPartOf_unwritten {b : Byte} (h : 1 < b.toNat) :
    regionPartOf b = some .counters ∨ regionPartOf b = none := by
  by_cases two : b = 2
  · subst two
    exact .inl rfl
  · refine .inr (regionPartOf_none ?_)
    have : b.toNat ≠ 2 := fun same => two (BitVec.eq_of_toNat_eq same)
    omega

/-! ## SET_REGION -/

theorem exec_setRegion {s : State} (h : Waiting .setRegion .engine s) :
    exec .setRegion s = .next (setRegion s) := congrArg _ (takeByOwner_waiting h)

theorem setRegion_run {s : State} (run : s.engine.mode = .run) : setRegion s = complete .refusedState none s := by
  rw [setRegion, run]

section
variable {s : State} (config : s.engine.mode = .config)
include config

theorem setRegion_badIndex (h : 12 < (lowByte s.win.params[0]).toNat) : setRegion s = complete .badParam none s := by
  have none : byteBelow 13 (lowByte (s.param 0)) = .none := byteBelow_none h
  rw [setRegion, config]
  dsimp only
  rw [none]

theorem setRegion_badPart (h : 1 < (highByte s.win.params[0]).toNat) : setRegion s = complete .badParam none s := by
  have unwritten : regionPartOf (highByte (s.param 0)) = some .counters ∨ regionPartOf (highByte (s.param 0)) = none :=
    regionPartOf_unwritten h
  rw [setRegion, config]
  dsimp only
  rcases unwritten with part | part
  all_goals
    rw [part]
    cases byteBelow 13 (lowByte (s.param 0)) <;> rfl

variable {ix : RegionIx} (index : (lowByte s.win.params[0]).toNat = ix.val)
include index

theorem setRegion_range (h : highByte s.win.params[0] = 0) : setRegion s = setRange ix s := by
  have named : byteBelow 13 (lowByte (s.param 0)) = some ix := byteBelow_some index
  have part : regionPartOf (highByte (s.param 0)) = some .range := congrArg regionPartOf h
  rw [setRegion, config]
  dsimp only
  rw [named, part]

theorem setRegion_policy (h : highByte s.win.params[0] = 1) : setRegion s = setPolicy ix s := by
  have named : byteBelow 13 (lowByte (s.param 0)) = some ix := byteBelow_some index
  have part : regionPartOf (highByte (s.param 0)) = some .policy := congrArg regionPartOf h
  rw [setRegion, config]
  dsimp only
  rw [named, part]

end

/-- The default region has no range (R47, check 4). -/
theorem setRange_default (s : State) : setRange 12 s = complete .badParam none s := by
  unfold setRange
  cases rangeParams s <;> rfl

theorem setRange_badParam {s : State} (h : rangeParams s = none) (ix : RegionIx) :
    setRange ix s = complete .badParam none s := by
  rw [setRange, h]

theorem setRange_ok {s : State} {r : RegionRange} (h : rangeParams s = some r) (ix : Fin 12) :
    setRange ix.castSucc s = complete .ok none (writeRange ix r s) := by
  rw [setRange, h]
  exact dif_pos ix.isLt

theorem setPolicy_badParam {s : State} (h : policyParams s = none) (ix : RegionIx) :
    setPolicy ix s = complete .badParam none s := by
  rw [setPolicy, h]

theorem setPolicy_ok {s : State} {p : RegionPolicy} (h : policyParams s = some p) (ix : RegionIx) :
    setPolicy ix s = complete .ok none (writePolicy ix p s) := by
  rw [setPolicy, h]

/-- Settles O6: the index and the part choose between a range and a policy, and each is read by what its parameters
name. -/
theorem setRegionChecksAndWrites : Obligations.SetRegionChecksAndWrites := by
  unfold Obligations.SetRegionChecksAndWrites
  refine ⟨fun _ => ⟨rfl, rfl⟩, fun s w => ?_⟩
  rw [exec_setRegion w]
  refine ⟨fun run => by rw [setRegion_run run], fun config bad => ?_, ?_, ?_⟩
  · by_cases high : 12 < (lowByte s.win.params[0]).toNat
    · rw [setRegion_badIndex config high]
    have index : (lowByte s.win.params[0]).toNat =
      (⟨_, Nat.lt_succ_of_le (Nat.not_lt.mp high)⟩ : RegionIx).val := rfl
    rcases bad with above | part | ⟨part, default | range⟩ | ⟨part, policy⟩
    · exact absurd above high
    · rw [setRegion_badPart config part]
    · rw [setRegion_range config (ix := 12) default part, setRange_default]
    · rw [setRegion_range config index part, setRange_badParam (rangeParams_none range)]
    · rw [setRegion_policy config index part, setPolicy_badParam (policyParams_none policy)]
  · intro ix base limit config index part hb hl le
    have params : rangeParams s = some
        { enabled := s.win.params[1].getLsbD 0, mem := (s.win.params[1].extractLsb' 8 4).toFin
          base := base, limit := limit } := rangeParams_iff.mpr ⟨⟨rfl, rfl⟩, hb, hl, le⟩
    rw [setRegion_range config (ix := ix.castSucc) index part, setRange_ok params]
    rfl
  · intro ix cls config index part threshold soft decay code
    have params : policyParams s = some (s.policyGiven cls) :=
      policyParams_iff.mpr ⟨code.trans (by cases cls <;> rfl), ⟨threshold, soft, decay⟩, rfl⟩
    rw [setRegion_policy config index part, setPolicy_ok params]
    rfl

/-! ## UNMUTE_REGION -/

theorem exec_unmuteRegion {s : State} (h : Waiting .unmuteRegion .engine s) :
    exec .unmuteRegion s = .next (unmuteRegion s) := congrArg _ (takeByOwner_waiting h)

theorem unmuteRegion_badParam {s : State} (h : 12 < s.win.params[0].toNat) :
    unmuteRegion s = complete .badParam none s := by
  have none : wordBelow 13 (s.param 0) = .none := wordBelow_none h
  rw [unmuteRegion, none]

theorem unmuteRegion_named {s : State} {ix : RegionIx} (h : s.win.params[0].toNat = ix.val) : unmuteRegion s =
    if s.engine.regions[ix].counts.muted then complete .ok none (s.setCounts ix s.engine.regions[ix].counts.unmuted)
    else complete .already none s := by
  have named : wordBelow 13 (s.param 0) = some ix := wordBelow_some h
  rw [unmuteRegion, named]

/-! ## Burst counting and its decay -/

theorem burstCount_unlimited {ix : RegionIx} {s : State} (h : s.engine.regions[ix].policy.burstLimit = 0) :
    burstCount ix s = s := if_pos h

/-- Under a limit other than 0 the counter rises, and at the limit the region is muted and announced (R43). -/
theorem burstCount_limited {ix : RegionIx} {s : State} (h : s.engine.regions[ix].policy.burstLimit ≠ 0) :
    burstCount ix s =
      let c := s.engine.regions[ix].counts.burstRaised s.time.stamp s.engine.regions[ix].policy.decayPeriod
      if s.engine.regions[ix].counts.burst + 1 = s.engine.regions[ix].policy.burstLimit
      then post (.burst ix) false (s.setCounts ix c.mute) else s.setCounts ix c := if_neg h

/-- The counter raised by one, its deadline armed where it was 0 (R43). -/
theorem RegionCounts.burstRaised_eq (c : RegionCounts) (stamp : Stamp) (period : Word) :
    c.burstRaised stamp period = { c with
      burst := c.burst + 1
      decayDeadline := if c.burst = 0 then some (stamp + period.setWidth 32) else c.decayDeadline } := by
  rw [RegionCounts.burstRaised, armed_eq]

theorem exec_decayDeadline {s : State} (h : s.held = false) (ix : RegionIx) :
    exec (.decayDeadline ix) s = .next (decay ix s) := congrArg _ (whenRunning_running _ h)

theorem reachedOpt_iff {stamp : Stamp} {deadline : Option Stamp} :
    reachedOpt stamp deadline = true ↔ ∃ d, deadline = some d ∧ (stamp - d).toNat < 2 ^ 31 := by
  unfold reachedOpt
  rw [Option.any_eq_true]
  simp only [reached_iff]

theorem decay_unreached {ix : RegionIx} {s : State}
    (h : ∀ d, s.engine.regions[ix].counts.decayDeadline = some d → ¬ (s.time.stamp - d).toNat < 2 ^ 31) :
    decay ix s = s := if_neg fun due => by
  obtain ⟨d, present, reached⟩ := reachedOpt_iff.mp due
  exact h d present reached

theorem decay_reached {ix : RegionIx} {s : State} {d : Stamp}
    (present : s.engine.regions[ix].counts.decayDeadline = some d) (reached : (s.time.stamp - d).toNat < 2 ^ 31) :
    decay ix s = s.setCounts ix
      (s.engine.regions[ix].counts.decayed s.time.stamp s.engine.regions[ix].policy.decayPeriod) :=
  if_pos (reachedOpt_iff.mpr ⟨d, present, reached⟩)

/-- A counter of at most 1 falls to 0, and its deadline is absent (R45). -/
theorem RegionCounts.decayed_last {c : RegionCounts} (h : c.burst.toNat ≤ 1) (stamp : Stamp) (period : Word) :
    c.decayed stamp period = { c with burst := 0, decayDeadline := none } := by
  have zero : (if c.burst = 0 then 0 else c.burst - 1) = 0 := by
    split
    next => rfl
    next ne => bv_omega
  unfold RegionCounts.decayed
  dsimp only
  rw [zero, if_pos rfl]

/-- A counter above 1 falls by one, and its deadline is armed again (R45). -/
theorem RegionCounts.decayed_again {c : RegionCounts} (h : 1 < c.burst.toNat) (stamp : Stamp) (period : Word) :
    c.decayed stamp period = { c with
      burst := c.burst - 1, decayDeadline := some (stamp + period.setWidth 32) } := by
  have counting : c.burst ≠ 0 := by bv_omega
  have stays : c.burst - 1 ≠ 0 := by bv_omega
  unfold RegionCounts.decayed
  dsimp only
  rw [if_neg counting, if_neg stays, armed_eq]

/-- Settles O8: burst counting by its limit, UNMUTE_REGION by the muted state, the decay by the counter. -/
theorem regionBurstState : Obligations.RegionBurstState := by
  unfold Obligations.RegionBurstState
  refine ⟨fun s ix => ⟨burstCount_unlimited, fun limited below => ?_, fun limited at_ => ?_⟩,
    fun s => ⟨fun w => ?_, fun ix running => ?_⟩⟩
  · rw [burstCount_limited limited, RegionCounts.burstRaised_eq]
    exact if_neg below
  · rw [burstCount_limited limited]
    exact if_pos at_
  · rw [exec_unmuteRegion w]
    refine ⟨fun above => by rw [unmuteRegion_badParam above], fun ix index => ?_⟩
    rw [unmuteRegion_named index]
    refine ⟨fun unmuted => ?_, fun muted => ?_⟩
    · rw [if_neg (by rw [unmuted]; exact nofun)]
    · rw [if_pos muted]
      rfl
  · rw [exec_decayDeadline running]
    refine ⟨fun unreached => by rw [decay_unreached unreached], fun d present reached => ?_⟩
    rw [decay_reached present reached]
    refine ⟨fun last => ?_, fun again => ?_⟩
    · rw [RegionCounts.decayed_last last]
      rfl
    · rw [RegionCounts.decayed_again again]
      rfl

end Sys2Proof.Machine
end

section
/-! SUPPORT. READ_MEMORY, READ_REGION and READ_PORT: what each completes with, and the words of their views as fields side
by side. -/

namespace Sys2Proof.Machine

/-! ## READ_MEMORY -/

/-- The entries of a list of slots that are present and satisfy a test. -/
theorem countP_present {α : Type} (l : List (Option α)) (p : α → Bool) :
    (l.filterMap id).countP p = l.countP fun o => o.any p := by
  rw [List.countP_filterMap]
  refine List.countP_congr fun o _ => ?_
  cases o <;> rfl

theorem exec_readMemory {s : State} (h : Waiting .readMemory .engine s) :
    exec .readMemory s = .next (readMemory s) := congrArg _ (takeByOwner_waiting h)

theorem readMemory_badParam {s : State} (h : 15 < s.win.params[0].toNat) :
    readMemory s = complete .badParam none s := by
  have none : wordBelow 16 (s.param 0) = .none := wordBelow_none h
  rw [readMemory, none]

/-- The entry is shown with the numbers of records of each table that name the memory (R37). -/
theorem readMemory_named {s : State} {m : MemId} (h : s.win.params[0].toNat = m.val) :
    readMemory s = complete .ok (some (viewMemory m s.engine.memories[m]
      (s.engine.cTable.toList.countP fun r => r.any fun r => r.core.key.mem == m)
      (s.engine.sTable.toList.countP fun r => r.any fun r => r.core.key.mem == m))) s := by
  have named : wordBelow 16 (s.param 0) = some m := wordBelow_some h
  rw [readMemory, named, ← countP_present, ← countP_present]
  rfl

/-! ## READ_REGION -/

theorem exec_readRegion {s : State} (h : Waiting .readRegion .engine s) :
    exec .readRegion s = .next (readRegion s) := congrArg _ (takeByOwner_waiting h)

theorem readRegion_badIndex {s : State} (h : 12 < (lowByte s.win.params[0]).toNat) :
    readRegion s = complete .badParam none s := by
  have none : byteBelow 13 (lowByte (s.param 0)) = .none := byteBelow_none h
  rw [readRegion, none]

theorem readRegion_badPart {s : State} (h : 2 < (highByte s.win.params[0]).toNat) :
    readRegion s = complete .badParam none s := by
  have part : regionPartOf (highByte (s.param 0)) = none := regionPartOf_none h
  rw [readRegion, part]
  cases byteBelow 13 (lowByte (s.param 0)) <;> rfl

section
variable {s : State} {ix : RegionIx} (index : (lowByte s.win.params[0]).toNat = ix.val)
include index

theorem readRegion_range (h : highByte s.win.params[0] = 0) : readRegion s =
    if h : ix.val < 12 then complete .ok (some (viewRange s.engine.ranges[ix.val])) s
    else complete .badParam none s := by
  have named : byteBelow 13 (lowByte (s.param 0)) = some ix := byteBelow_some index
  have part : regionPartOf (highByte (s.param 0)) = some .range := congrArg regionPartOf h
  rw [readRegion, named, part]

theorem readRegion_policy (h : highByte s.win.params[0] = 1) :
    readRegion s = complete .ok (some (viewPolicy s.engine.regions[ix])) s := by
  have named : byteBelow 13 (lowByte (s.param 0)) = some ix := byteBelow_some index
  have part : regionPartOf (highByte (s.param 0)) = some .policy := congrArg regionPartOf h
  rw [readRegion, named, part]

theorem readRegion_counters (h : highByte s.win.params[0] = 2) :
    readRegion s = complete .ok (some (viewCounters s.engine.regions[ix])) s := by
  have named : byteBelow 13 (lowByte (s.param 0)) = some ix := byteBelow_some index
  have part : regionPartOf (highByte (s.param 0)) = some .counters := congrArg regionPartOf h
  rw [readRegion, named, part]

end

/-! ## READ_PORT -/

theorem exec_readPort {s : State} {ix : PortIx} (h : Waiting .readPort (.port ix) s) :
    exec .readPort s = .next (readPort ix s) := congrArg _ (takeByPort_waiting h)

/-! ## Words as fields side by side -/

/-- A field made of two is the low one at its place and the high one above it. -/
theorem fieldAt_append {v w : Nat} (high : BitVec w) (low : BitVec v) (pos : Nat) :
    fieldAt (high ++ low) pos = fieldAt low pos ||| fieldAt high (pos + v) := by
  refine word_ext fun i => ?_
  simp only [BitVec.getLsbD_or, fieldAt_getLsbD, BitVec.getLsbD_append]
  by_cases below : i.val < pos
  · have : i.val < pos + v := by omega
    simp [below, this]
  · by_cases within : i.val - pos < v
    · have : i.val < pos + v := by omega
      simp [below, within, this]
    · have : ¬ i.val < pos + v := by omega
      have outside : low.getLsbD (i.val - pos) = false := BitVec.getLsbD_of_ge _ _ (by omega)
      simp [below, within, this, outside, Nat.sub_sub]

theorem fieldAt_zero (w pos : Nat) : fieldAt 0#w pos = 0#16 := by
  simp [fieldAt]

/-- A word is what its fields, each at its place, make. -/
theorem word_of_fields {x y : Word} (h : x = fieldAt y 0) : x = y := by
  rw [h]
  simp [fieldAt]

section
variable (a b c : Bool) (mem soft tag : BitVec 4) (mode : BitVec 2) (queued : BitVec 3) (low high : Byte)

theorem ownerWord : fieldAt mem 0 ||| fieldAt high 8 = high ++ 0#4 ++ mem :=
  word_of_fields (by simp only [fieldAt_append, fieldAt_zero, BitVec.zero_or, Nat.zero_add])

theorem enabledWord : flagAt a 0 ||| fieldAt mem 8 = 0#4 ++ mem ++ 0#7 ++ BitVec.ofBool a :=
  word_of_fields (by simp only [flagAt, fieldAt_append, fieldAt_zero, BitVec.zero_or, BitVec.or_zero, Nat.zero_add])

theorem thresholdWord :
    fieldAt low 0 ||| fieldAt soft 8 ||| flagAt a 15 = BitVec.ofBool a ++ 0#3 ++ soft ++ low :=
  word_of_fields (by simp only [flagAt, fieldAt_append, fieldAt_zero, BitVec.zero_or, BitVec.or_assoc, Nat.zero_add])

theorem flagWord : flagAt a 0 = 0#15 ++ BitVec.ofBool a :=
  word_of_fields (by simp only [flagAt, fieldAt_append, fieldAt_zero, BitVec.or_zero, Nat.zero_add])

theorem portModeWord : fieldAt mode 0 ||| flagAt a 2 ||| fieldAt queued 4 =
    0#9 ++ queued ++ 0#1 ++ BitVec.ofBool a ++ mode :=
  word_of_fields (by
    simp only [flagAt, fieldAt_append, fieldAt_zero, BitVec.zero_or, BitVec.or_zero, BitVec.or_assoc, Nat.zero_add])

theorem portTagWord : flagAt a 0 ||| flagAt b 1 ||| flagAt c 2 ||| fieldAt tag 8 =
    0#4 ++ tag ++ 0#5 ++ BitVec.ofBool c ++ BitVec.ofBool b ++ BitVec.ofBool a :=
  word_of_fields (by
    simp only [flagAt, fieldAt_append, fieldAt_zero, BitVec.zero_or, BitVec.or_zero, BitVec.or_assoc, Nat.zero_add])

theorem bytesWord : fieldAt low 0 ||| fieldAt high 8 = high ++ low :=
  word_of_fields (by simp only [fieldAt_append, Nat.zero_add])

end

/-! ## Words of a number carried in two registers -/

theorem highWord_granule (g : Granule) : highWord g = 0#3 ++ g.extractLsb' 16 13 := by
  refine word_ext fun i => ?_
  simp only [highWord, BitVec.getLsbD_extractLsb', BitVec.getLsbD_append]
  fin_cases i <;> simp

theorem lowWord_ofNat (n : Nat) : lowWord (BitVec.ofNat 32 n) = BitVec.ofNat 16 n := by
  refine BitVec.eq_of_toNat_eq ?_
  simp only [lowWord, BitVec.extractLsb'_toNat, BitVec.toNat_ofNat, Nat.shiftRight_zero]
  omega

theorem highWord_ofNat (n : Nat) : highWord (BitVec.ofNat 32 n) = BitVec.ofNat 16 (n / 65536) := by
  refine BitVec.eq_of_toNat_eq ?_
  simp only [highWord, BitVec.extractLsb'_toNat, BitVec.toNat_ofNat, Nat.shiftRight_eq_div_pow]
  omega

/-! ## The three commands and their views -/

/-- Settles O7: what the three commands complete with, and the words of the five views. -/
theorem readCommandsShowEntries : Obligations.ReadCommandsShowEntries := by
  unfold Obligations.ReadCommandsShowEntries
  refine ⟨fun s => ⟨fun w => ?_, fun w => ?_, fun ix w => by rw [exec_readPort w, readPort]⟩,
    fun m e cCount sCount => ?_, fun r => ?_, fun r => ?_, fun _ => rfl, fun p => ?_⟩
  · rw [exec_readMemory w]
    exact ⟨fun above => by rw [readMemory_badParam above], fun m named => by rw [readMemory_named named]⟩
  · rw [exec_readRegion w]
    refine ⟨?_, fun ix index part => ?_, fun ix index part => by rw [readRegion_policy index part],
      fun ix index part => by rw [readRegion_counters index part]⟩
    · rintro (index | part | ⟨default, part⟩)
      · rw [readRegion_badIndex index]
      · rw [readRegion_badPart part]
      · rw [readRegion_range (ix := 12) default part]
        rfl
    · rw [readRegion_range (ix := ix.castSucc) index part]
      exact congrArg _ (dif_pos ix.isLt)
  · refine viewOf_congr ((ownerWord _ _).trans (append_congr (append_congr ?_ rfl) rfl)) rfl (lowWord_ofNat _)
      (highWord_ofNat _) rfl rfl rfl rfl
    cases e.owner <;> rfl
  · exact viewOf_congr (enabledWord _ _) rfl (highWord_granule _) rfl (highWord_granule _) rfl rfl rfl
  · refine viewOf_congr (thresholdWord _ _ _) (lowByteWord _) rfl ?_ (flagWord _) (lowByteWord _) rfl rfl
    cases r.policy.severeClass <;> rfl
  · refine viewOf_congr ((portModeWord _ _ _).trans (append_congr rfl ?_)) (bytesWord _ _) (portTagWord _ _ _ _) rfl
      (bytesWord _ _) (bytesWord _ _) rfl rfl
    cases p.mode <;> rfl

end Sys2Proof.Machine
end

section
/-! SUPPORT. Taking a report: when none is taken, the order of the search, region lookup, and the reports that fail the
ownership check or meet a muted region. -/

namespace Sys2Proof.Machine

/-! ## No report taken -/

theorem engineCommandPending_of {c : Command} {s : State} (h : s.win.command = some ⟨c, .engine⟩) :
    s.engineCommandPending = true := by
  rw [State.engineCommandPending, h]

/-- The report feed is closed in CONFIG, behind an engine command and behind an ANSWERED job (R63). -/
theorem reportsOpen_eq_false {s : State} (h : s.engine.mode = .config ∨ (∃ c, s.win.command = some ⟨c, .engine⟩) ∨
    s.sched.answered ≠ []) : s.reportsOpen = false := by
  unfold State.reportsOpen
  rcases h with config | ⟨c, pending⟩ | answered
  · rw [config]
    rfl
  · rw [engineCommandPending_of pending, Bool.not_true, Bool.and_false, Bool.false_and]
  · rw [List.isEmpty_eq_false_iff.mpr answered, Bool.and_false]

theorem takeReport_closed {s : State} (h : s.reportsOpen = false) : takeReport s = s := by
  rw [takeReport, h]
  rfl

/-- With every queue empty the search finds no report (R64). -/
theorem nextReport_none {s : State} (h : ∀ ix : PortIx, s.ports[ix].queue = []) : nextReport s = none := by
  refine List.findSome?_eq_none_iff.mpr fun ix _ => ?_
  rw [h ix]
  rfl

theorem takeReport_empty {s : State} (h : ∀ ix : PortIx, s.ports[ix].queue = []) : takeReport s = s := by
  rw [takeReport, nextReport_none h]
  exact ite_self _

theorem exec_takeReport {s : State} (h : s.held = false) : exec .takeReport s = .next (takeReport s) :=
  congrArg _ (whenRunning_running _ h)

/-! ## Reports without a table effect -/

theorem ownershipOk_iff {ix : PortIx} {rep : Report} {s : State} : ownershipOk ix rep s = true ↔
    s.engine.memories[rep.mem].owner = some ix ∧
      rep.addr.toNat / s.engine.memories[rep.mem].granuleSize.bytes < s.engine.memories[rep.mem].size := by
  unfold ownershipOk
  dsimp only
  rw [Bool.and_eq_true, beq_iff_eq, inMemory_iff]

/-- A report that is due and fails the ownership check is unrecorded in the default region (R35). -/
theorem execTakeReport_foreign {ix : PortIx} {rep : Report} {s : State} (due : ReportDue ix rep s)
    (foreign : s.engine.memories[rep.mem].owner ≠ some ix ∨ s.engine.memories[rep.mem].size ≤
      rep.addr.toNat / s.engine.memories[rep.mem].granuleSize.bytes) :
    exec .takeReport s = .next (countUnrecorded 12 (popReport ix s)) := by
  have fails : ¬ ownershipOk ix rep (popReport ix s) = true := fun passes => by
    obtain ⟨owned, within⟩ := ownershipOk_iff.mp passes
    rcases foreign with unowned | outside
    · exact unowned owned
    · exact absurd within (Nat.not_lt.mpr outside)
  rw [execTakeReport_due due, judgeReport, if_neg fails]
  rfl

/-- A correctable report that is due and admitted meets a muted region (R44). -/
theorem execTakeReport_muted {ix : PortIx} {rep : Report} {k : Key} {region : RegionIx} {s : State}
    (due : ReportDue ix rep s) (admitted : Admitted ix rep k region s) (mild : rep.kind.severe = false)
    (muted : s.engine.regions[region].counts.muted = true) :
    exec .takeReport s = .next (countMuted region (popReport ix s)) := by
  have still : (popReport ix s).engine.regions[region].counts.muted = true := muted
  rw [execTakeReport_due due, judgeReport_admitted admitted, applyReport, mild, if_neg nofun, if_pos still]

/-! ## Search order, region lookup, saturating counts -/

theorem searchOrder_vals (last : PortIx) :
    (searchOrder last).map Fin.val = (List.range 6).map fun n => (last.val + 1 + n) % 6 := by
  fin_cases last <;> rfl

theorem covers_eq_false {r : RegionRange} {k : Key} (h : ¬ (r.enabled = true ∧ r.mem = k.mem ∧
    r.base.toNat ≤ k.granule.toNat ∧ k.granule.toNat ≤ r.limit.toNat)) : covers r k = false :=
  Bool.eq_false_iff.mpr (mt (covers_iff r k).mp h)

theorem satInc_word (w : Word) : satInc w = BitVec.ofNat 16 (min 65535 (w.toNat + 1)) := by
  rw [Nat.min_comm]
  exact BitVec.eq_of_toNat_eq (by rw [satInc_toNat, BitVec.toNat_ofNat]; omega)

/-- Settles O16: what closes the report feed, the two takes without a table effect, and the parts of the take. -/
theorem takeReportWithoutTableEffect : Obligations.TakeReportWithoutTableEffect := by
  unfold Obligations.TakeReportWithoutTableEffect
  refine ⟨fun s => ⟨fun running idle => ?_, fun ix rep due => ⟨fun foreign => ?_, ?_⟩⟩, searchOrder_vals,
    fun s k => ⟨fun i holds low => ?_, fun none => ?_⟩, fun s ix region => ?_, fun w => ?_, fun b => ?_⟩
  · have unchanged : takeReport s = s := by
      rcases idle with config | pending | answered | empty
      · exact takeReport_closed (reportsOpen_eq_false (.inl config))
      · exact takeReport_closed (reportsOpen_eq_false (.inr (.inl pending)))
      · exact takeReport_closed (reportsOpen_eq_false (.inr (.inr answered)))
      · exact takeReport_empty empty
    rw [exec_takeReport running, unchanged]
  · rw [execTakeReport_foreign due foreign]
    rfl
  · intro k region admitted mild muted
    rw [execTakeReport_muted due admitted mild muted]
    rfl
  · have first : s.lookupRegion k = i.castSucc :=
      lookupRegion_lowest ((covers_iff _ _).mpr holds) fun j below => covers_eq_false (low j below)
    rw [first]
    rfl
  · exact lookupRegion_default fun j => covers_eq_false (none j)
  · rw [← satInc_word]
    rfl
  · rw [satInc_toNat, Nat.min_comm]
    rfl
  · rw [satInc_toNat, Nat.min_comm]
    rfl

end Sys2Proof.Machine
end

section
/-! SUPPORT. The assertion of WRST. -/

namespace Sys2Proof.Machine

theorem assertWrst_again {s : State} (h : s.resets.wrst = true) : assertWrst s = s := if_pos h

theorem assertWrst_porst {s : State} (wrst : s.resets.wrst = false) (porst : s.resets.porst = true) :
    assertWrst s = s.setResets { s.resets with wrst := true } := by
  rw [assertWrst, wrst, porst]
  rfl

theorem assertWrst_running {s : State} (h : s.held = false) : assertWrst s = startWarmReset s := by
  obtain ⟨porst, wrst⟩ := Bool.or_eq_false_iff.mp h
  rw [assertWrst, wrst, porst]
  rfl

/-- Settles O52: a part that is not held starts a warm reset, field by field; otherwise only the input changes. -/
theorem warmResetAssertionKeepsRetainedSet : Obligations.WarmResetAssertionKeepsRetainedSet := by
  unfold Obligations.WarmResetAssertionKeepsRetainedSet
  refine fun s => ⟨fun wrst => ?_, fun wrst porst => ?_, fun running => ⟨startWarmReset s, ?_, ?_⟩⟩
  · exact congrArg _ (assertWrst_again wrst)
  · exact congrArg _ (assertWrst_porst wrst porst)
  · exact congrArg _ (assertWrst_running running)
  · exact ⟨rfl, rfl, rfl, rfl, rfl, rfl, warmReset_regions s.engine, rfl, rfl, rfl, rfl, rfl, rfl, rfl, rfl, rfl, rfl⟩

end Sys2Proof.Machine
end

section
/-! SUPPORT. The time base and the host window: ticks and clock periods, writes of CONTROL and of the parameters, the read
of STAMP_LO, and every register as a read shows it. -/

namespace Sys2Proof.Machine

/-! ## Ticks and clock periods -/

theorem tickOnce_running {s : State} (h : s.resets.porst = false) :
    tickOnce s = s.setTime
      { stamp := s.time.stamp + 1, count := 0, divisorInUse := s.win.settings.divisorLessOne } := by
  rw [tickOnce, h]
  rfl

theorem tickOnce_porst {s : State} (h : s.resets.porst = true) : tickOnce s = s := if_pos h

theorem clockPeriod_porst {s : State} (h : s.resets.porst = true) : clockPeriod s = s := if_pos h

/-- Within an interval a clock period raises the count (R52). -/
theorem clockPeriod_counts {s : State} (h : s.resets.porst = false) (below : s.time.count < s.time.divisorInUse.toNat) :
    clockPeriod s = s.setTime { s.time with count := s.time.count + 1 } := by
  rw [clockPeriod, h, if_pos below]
  rfl

/-- At the end of an interval a clock period is a tick (R52). -/
theorem clockPeriod_ticks {s : State} (h : s.resets.porst = false) (full : s.time.divisorInUse.toNat ≤ s.time.count) :
    clockPeriod s = tickOnce s := by
  rw [clockPeriod, h, if_neg (Nat.not_lt.mpr full)]
  rfl

theorem step_idle {s : State} (h : s.pending = []) : step s = .next (clockPeriod s) := by
  rw [step, h]

/-- Settles O2: a tick, and the clock period of an idle step, by the cases of R52 and R54. -/
theorem idleStepAndTick : Obligations.IdleStepAndTick := by
  unfold Obligations.IdleStepAndTick
  refine fun s => ⟨fun running => ?_, fun porst => ?_, fun idle running below => ?_, fun idle running full => ?_,
    fun idle porst => ?_⟩
  · exact congrArg _ (tickOnce_running running)
  · exact congrArg _ (tickOnce_porst porst)
  · rw [step_idle idle, clockPeriod_counts running below]
    rfl
  · rw [step_idle idle, clockPeriod_ticks running full]
    rfl
  · rw [step_idle idle, clockPeriod_porst porst]

/-! ## Writes of CONTROL and of the other registers -/

theorem exec_setInterruptEnables {s : State} (h : s.held = false) (word : Word) :
    exec (.setInterruptEnables word) s = .next (writeControl word s) := congrArg _ (whenRunning_running _ h)

theorem exec_markSeen {s : State} (h : s.held = false) (word : Word) :
    exec (.markSeen word) s = .next (writeControl (word ||| 0x0004#16) s) := congrArg _ (whenRunning_running _ h)

theorem exec_registerWrite {s : State} (h : s.held = false) (a : BitVec 5) (word : Word) :
    exec (.registerWrite a word) s = .next (writeRegister a word s) := congrArg _ (whenRunning_running _ h)

/-- The seen bit clears the unseen indication, and otherwise leaves it (R174). -/
theorem writeControl_eq (word : Word) (s : State) : writeControl word s = s.setWin { s.win with
    noticeEnable := word.getLsbD 0, commandEnable := word.getLsbD 1
    unseen := if word.getLsbD 2 then false else s.win.unseen } := by
  unfold writeControl
  cases word.getLsbD 2 <;> simp

/-- The bits of a word that MARK_SEEN carries, its seen bit set (log entry 18). -/
theorem seen_bits (word : Word) : (word ||| 0x0004#16).getLsbD 0 = word.getLsbD 0 ∧
    (word ||| 0x0004#16).getLsbD 1 = word.getLsbD 1 ∧ (word ||| 0x0004#16).getLsbD 2 = true := by
  simp

theorem writeControl_seen (word : Word) (s : State) : writeControl (word ||| 0x0004#16) s = s.setWin { s.win with
    noticeEnable := word.getLsbD 0, commandEnable := word.getLsbD 1, unseen := false } := by
  obtain ⟨notice, command, seen⟩ := seen_bits word
  rw [writeControl_eq, notice, command, if_pos seen]

theorem writeRegister_control (word : Word) (s : State) : writeRegister 0x03#5 word s = writeControl word s :=
  if_pos rfl

/-- The parameter registers stand at 05h to 0Ah (Table 11-3). -/
theorem writeRegister_param (k : Fin 6) (word : Word) (s : State) :
    writeRegister (BitVec.ofNat 5 (k.val + 5)) word s =
      s.setWin { s.win with params := s.win.params.set k.val word } := by
  fin_cases k <;> rfl

theorem writeRegister_other {a : BitVec 5} (h : a.toNat < 3 ∨ 10 < a.toNat) (word : Word) (s : State) :
    writeRegister a word s = s := by
  unfold writeRegister
  rw [if_neg (by rintro rfl; simp at h), if_neg (by rintro rfl; simp at h), dif_neg (by omega)]

/-! ## The read of STAMP_LO -/

theorem lowWord_stamp (t : Stamp) : lowWord t = t.setWidth 16 := rfl

theorem highWord_stamp (t : Stamp) : highWord t = (t >>> 16).setWidth 16 := rfl

/-- A part that is not held answers the read with the low word and captures the high one (R55). -/
theorem exec_stampLoRead {s : State} (h : s.held = false) : exec .stampLoRead s = .next (readStampLo s) := by
  have running : ¬ s.held = true := by rw [h]; nofun
  exact congrArg _ (if_neg running)

/-! ## The words of Table 11-4 as fields side by side -/

section
variable (a b : Bool) (cmd esc : BitVec 2) (engine : BitVec 1) (result : BitVec 4) (count : BitVec 5) (lost : Byte)
  (p0 p1 p2 p3 p4 p5 : BitVec 2)

theorem status0Word :
    fieldAt cmd 0 ||| flagAt a 2 ||| flagAt b 3 ||| fieldAt result 4 ||| fieldAt engine 8 ||| fieldAt esc 9 =
      0#5 ++ esc ++ engine ++ result ++ BitVec.ofBool b ++ BitVec.ofBool a ++ cmd :=
  word_of_fields (by
    simp only [flagAt, fieldAt_append, fieldAt_zero, BitVec.or_zero, BitVec.or_assoc, Nat.zero_add])

theorem status1Word : fieldAt count 0 ||| fieldAt lost 8 = lost ++ 0#3 ++ count :=
  word_of_fields (by simp only [fieldAt_append, fieldAt_zero, BitVec.zero_or, Nat.zero_add])

theorem enablesWord : flagAt a 0 ||| flagAt b 1 = 0#14 ++ BitVec.ofBool b ++ BitVec.ofBool a :=
  word_of_fields (by simp only [flagAt, fieldAt_append, fieldAt_zero, BitVec.or_zero, Nat.zero_add])

theorem portSummaryWord :
    fieldAt p0 0 ||| fieldAt p1 2 ||| fieldAt p2 4 ||| fieldAt p3 6 ||| fieldAt p4 8 ||| fieldAt p5 10 =
      0#4 ++ p5 ++ p4 ++ p3 ++ p2 ++ p1 ++ p0 :=
  word_of_fields (by simp only [fieldAt_append, fieldAt_zero, BitVec.or_zero, BitVec.or_assoc, Nat.zero_add])

end

/-! ## What a read shows -/

theorem readRegister_held {s : State} (h : s.held = true) (a : BitVec 5) : readRegister a s = 0 := if_pos h

section
variable {s : State} (running : ¬ s.held = true)
include running

/-- PARAM0 to PARAM5 read at 05h to 0Ah (Table 11-3). -/
theorem readRegister_param (k : Fin 6) : readRegister (BitVec.ofNat 5 (k.val + 0x05)) s = s.win.params[k] := by
  fin_cases k <;> exact if_neg running

/-- The view registers read at 0Bh to 12h (Table 11-3). -/
theorem readRegister_view (k : Fin 8) : readRegister (BitVec.ofNat 5 (k.val + 0x0B)) s = s.win.views[k] := by
  fin_cases k <;> exact if_neg running

/-- No register stands at 1Ch to 1Fh (Table 11-3). -/
theorem readRegister_unused {a : BitVec 5} (h : 0x1C ≤ a.toNat) : readRegister a s = 0 := by
  have last : a = 0x1C#5 ∨ a = 0x1D#5 ∨ a = 0x1E#5 ∨ a = 0x1F#5 := by bv_omega
  rcases last with rfl | rfl | rfl | rfl <;> exact if_neg running

end

/-- Settles O50: the writes of CONTROL and the parameters, the read of STAMP_LO, and the registers word by word. -/
theorem controlParamAndStampAccesses : Obligations.ControlParamAndStampAccesses := by
  unfold Obligations.ControlParamAndStampAccesses
  refine ⟨fun s a held => readRegister_held held a, fun s word running => ?_⟩
  have notHeld : ¬ s.held = true := by rw [running]; nofun
  refine ⟨?_, ?_, ?_, fun k => ?_, fun a other => ?_, if_neg notHeld, ?_, ?_, ?_, if_neg notHeld,
    readRegister_param notHeld, readRegister_view notHeld, ?_, if_neg notHeld, if_neg notHeld,
    fun a unused => readRegister_unused notHeld unused, readStampLo s, exec_stampLoRead running, ?_, ?_⟩
  · rw [exec_setInterruptEnables running, writeControl_eq]
    rfl
  · rw [exec_registerWrite running, exec_setInterruptEnables running, writeRegister_control]
  · rw [exec_markSeen running, writeControl_seen]
    rfl
  · rw [exec_registerWrite running, writeRegister_param]
    rfl
  · rw [exec_registerWrite running, writeRegister_other other]
  · have shown : readRegister 0x01#5 s = status0 s := if_neg notHeld
    refine shown.trans ((status0Word _ _ _ _ _ _).trans ?_)
    refine append_congr (append_congr (append_congr (append_congr (append_congr
      (append_congr rfl ?_) ?_) ?_) rfl) rfl) ?_
    · cases s.esc.mode <;> rfl
    · cases s.engine.mode <;> rfl
    · rcases s.win.result with _ | r
      · rfl
      · cases r <;> rfl
    · cases s.win.cmdState <;> rfl
  · have shown : readRegister 0x02#5 s = status1 s := if_neg notHeld
    exact shown.trans (status1Word _ _)
  · have shown : readRegister 0x03#5 s = controlWord s := if_neg notHeld
    exact shown.trans (enablesWord _ _)
  · have shown : readRegister 0x19#5 s = portSummary s := if_neg notHeld
    have bits (m : PortMode) : m.code =
        match m with | .down => 0#2 | .listen => 1#2 | .ready => 2#2 | .halted => 3#2 := by
      cases m <;> rfl
    refine shown.trans ((portSummaryWord _ _ _ _ _ _).trans ?_)
    exact append_congr (append_congr (append_congr (append_congr (append_congr (append_congr rfl (bits _)) (bits _))
      (bits _)) (bits _)) (bits _)) (bits _)
  · rw [readStampLo, lowWord_stamp, highWord_stamp]
    rfl
  · have stillRunning : ¬ (readStampLo s).held = true := notHeld
    exact if_neg stillRunning

end Sys2Proof.Machine
end

section
/-! SUPPORT. What a command leaves unchanged: the queue of waiting commands, the time base, the engine state and the reset
inputs, operation by operation; and the commands that change nothing, because the part is held or the command is not
pending with its owner. -/

namespace Sys2Proof.Machine

/-! ## The parts that only their own commands change -/

/-- The queue of waiting commands, the time base, the engine state and the reset inputs of a state. -/
def State.steady (s : State) : List Instr × TimeBase × EngineMode × ResetInputs :=
  (s.pending, s.time, s.engine.mode, s.resets)

theorem steady_iff {s t : State} : t.steady = s.steady ↔
    t.pending = s.pending ∧ t.time = s.time ∧ t.engine.mode = s.engine.mode ∧ t.resets = s.resets := by
  simp only [State.steady, Prod.mk.injEq]

/-! ## Updates of State -/

section
variable (s : State)

@[simp] theorem State.setSched_steady (c : Scheduler) : (s.setSched c).steady = s.steady := rfl
@[simp] theorem State.setNotices_steady (n : NoticeQueue) : (s.setNotices n).steady = s.steady := rfl
@[simp] theorem State.setEsc_steady (e : Escalation) : (s.setEsc e).steady = s.steady := rfl
@[simp] theorem State.setWin_steady (w : Window) : (s.setWin w).steady = s.steady := rfl
@[simp] theorem State.setPort_steady (ix : PortIx) (p : Port) : (s.setPort ix p).steady = s.steady := rfl
@[simp] theorem State.setRegion_steady (ix : RegionIx) (r : Region) : (s.setRegion ix r).steady = s.steady := rfl
@[simp] theorem State.setCounts_steady (ix : RegionIx) (c : RegionCounts) : (s.setCounts ix c).steady = s.steady := rfl
@[simp] theorem State.setMemory_steady (m : MemId) (e : MemoryEntry) : (s.setMemory m e).steady = s.steady := rfl
@[simp] theorem State.setPinned_steady (n : Nat) : (s.setPinned n).steady = s.steady := rfl
@[simp] theorem State.setJobs_steady (q : List Job) : (s.setJobs q).steady = s.steady := rfl
@[simp] theorem State.putC_steady (slot : CSlot) (r : CRecord) : (s.putC slot r).steady = s.steady := rfl
@[simp] theorem State.putS_steady (slot : SSlot) (r : SRecord) : (s.putS slot r).steady = s.steady := rfl
@[simp] theorem State.dropS_steady (slot : SSlot) : (s.dropS slot).steady = s.steady := rfl
@[simp] theorem complete_steady (r : Result) (v : Option (Vector Word 8)) : (complete r v s).steady = s.steady := rfl

/-! ## Shared operations -/

@[simp] theorem takeCause_steady (kind : CauseKind) (seq : Option Word) (key : Option Key) :
    (takeCause kind seq key s).steady = s.steady := by simp [steady_iff]
@[simp] theorem post_steady (b : NoticeBody) (dated : Bool) : (post b dated s).steady = s.steady := by
  simp [steady_iff]
@[simp] theorem postSevere_steady (ref : RecRef) (core : RecordCore) (b : Bool) :
    (postSevere ref core b s).steady = s.steady := by simp [steady_iff]
@[simp] theorem handOver_steady (ix : PortIx) (h : Handover) : (handOver ix h s).steady = s.steady := rfl
@[simp] theorem popHandover_steady (ix : PortIx) : (popHandover ix s).steady = s.steady := rfl
@[simp] theorem answerJob_steady (j : Job) (ix : PortIx) (tag : Tag) (a : Answer) :
    (answerJob j ix tag a s).steady = s.steady := rfl
@[simp] theorem returnToHead_steady (j : Job) : (returnToHead j s).steady = s.steady := rfl
@[simp] theorem removeJob_steady (slot : CSlot) : (removeJob slot s).steady = s.steady := rfl
@[simp] theorem enterJob_steady (slot : CSlot) (r : CRecord) (cls : JobClass) :
    (enterJob slot r cls s).steady = s.steady := rfl
@[simp] theorem withdraw_steady (slot : CSlot) : (withdraw slot s).steady = s.steady := by simp [steady_iff]
@[simp] theorem removeC_steady (slot : CSlot) (r : CRecord) : (removeC slot r s).steady = s.steady :=
  withdraw_steady _ _
@[simp] theorem endRequest_steady (ix : PortIx) : (endRequest ix s).steady = s.steady := by simp [steady_iff]
@[simp] theorem discardFrame_steady (ix : PortIx) : (discardFrame ix s).steady = s.steady := by simp [steady_iff]
@[simp] theorem popReport_steady (ix : PortIx) : (popReport ix s).steady = s.steady := rfl
@[simp] theorem countAccepted_steady (ix : RegionIx) : (countAccepted ix s).steady = s.steady := rfl
@[simp] theorem countMuted_steady (ix : RegionIx) : (countMuted ix s).steady = s.steady := rfl
@[simp] theorem countUnrecorded_steady (ix : RegionIx) : (countUnrecorded ix s).steady = s.steady := rfl
@[simp] theorem countEviction_steady (ix : RegionIx) : (countEviction ix s).steady = s.steady := rfl
@[simp] theorem burstCount_steady (ix : RegionIx) : (burstCount ix s).steady = s.steady := by simp [steady_iff]

@[simp] theorem thresholdCheck_steady (slot : CSlot) (r : CRecord) : (thresholdCheck slot r s).steady = s.steady := by
  unfold thresholdCheck
  split
  · split <;> simp
  · split <;> simp
  · rfl
  · rfl

/-! ## Taking a report -/

@[simp] theorem createC_steady (slot : CSlot) (k : Key) (region : RegionIx) (rep : Report) :
    (createC slot k region rep s).steady = s.steady := by simp [createC]

@[simp] theorem unrecordedC_steady (k : Key) (region : RegionIx) : (unrecordedC k region s).steady = s.steady := by
  unfold unrecordedC
  dsimp only
  split
  · exact post_steady _ _ _
  · rfl

@[simp] theorem recordC_steady (k : Key) (region : RegionIx) (rep : Report) :
    (recordC k region rep s).steady = s.steady := by
  unfold recordC
  split
  · simp
  · split <;> simp

@[simp] theorem applyCorrectable_steady (k : Key) (region : RegionIx) (rep : Report) :
    (applyCorrectable k region rep s).steady = s.steady := by
  unfold applyCorrectable
  split
  · simp
  · split <;> simp [updateC]

@[simp] theorem applySevere_steady (k : Key) (region : RegionIx) (rep : Report) :
    (applySevere k region rep s).steady = s.steady := by
  unfold applySevere
  split
  · unfold updateS
    dsimp only
    split <;> simp
  · simp [promote]
  · simp [createS]
  · simp [overflowS]

@[simp] theorem applyReport_steady (k : Key) (region : RegionIx) (rep : Report) :
    (applyReport k region rep s).steady = s.steady := by
  unfold applyReport
  split
  · simp
  · split <;> simp

theorem takeReport_steady : (takeReport s).steady = s.steady := by
  unfold takeReport
  split
  · split
    · unfold judgeReport
      split <;> simp
    · rfl
  · rfl

/-! ## Answers and VERIFY_RECORD -/

theorem applyAnswer_steady (slot : CSlot) (j : Job) (r : CRecord) (a : Answer) :
    (applyAnswer slot j r a s).steady = s.steady := by
  cases a with
  | clean =>
    show (applyClean slot r s).steady = _
    unfold applyClean
    dsimp only
    split <;> simp
  | persists => simp [applyAnswer, applyPersists]
  | failed =>
    show (applyFailed slot j r s).steady = _
    unfold applyFailed
    dsimp only
    split <;> simp

variable {s} in
theorem execTakeAnsweredJob_steady {t : State} (h : execTakeAnsweredJob s = .next t) : t.steady = s.steady := by
  unfold execTakeAnsweredJob at h
  split at h
  · cases h; rfl
  · split at h
    · cases h; rfl
    · split at h
      · cases h; exact applyAnswer_steady _ _ _ _ _
      · cases h

variable {s} in
theorem verifyC_steady {slot : CSlot} {r : CRecord} {t : State} (h : verifyC slot r s = .next t) :
    t.steady = s.steady := by
  unfold verifyC at h
  split at h
  · unfold verifySuspect at h
    split at h
    · cases h
    · split at h <;> cases h <;> rfl
  all_goals split at h <;> cases h <;> rfl

variable {s} in
theorem execVerifyRecord_steady {t : State} (h : execVerifyRecord s = .next t) : t.steady = s.steady := by
  unfold execVerifyRecord verifyRecord at h
  split at h
  · split at h
    · split at h
      · exact verifyC_steady h
      · cases h; rfl
    · cases h; rfl
  · cases h; rfl

/-! ## The engine's other commands -/

theorem setMemory_steady : (setMemory s).steady = s.steady := by
  unfold setMemory
  split
  · rfl
  · split
    · rfl
    · split <;> rfl

theorem readMemory_steady : (readMemory s).steady = s.steady := by
  unfold readMemory
  split <;> rfl

theorem setRegion_steady : (setRegion s).steady = s.steady := by
  unfold setRegion
  split
  · rfl
  · split
    · unfold setRange
      split
      · rfl
      · split <;> rfl
    · unfold setPolicy
      split <;> rfl
    · rfl

theorem readRegion_steady : (readRegion s).steady = s.steady := by
  unfold readRegion
  split
  · split <;> rfl
  all_goals rfl

theorem unmuteRegion_steady : (unmuteRegion s).steady = s.steady := by
  unfold unmuteRegion
  split
  · rfl
  · dsimp only
    split <;> rfl

theorem fetchRecord_steady : (fetchRecord s).steady = s.steady := by
  unfold fetchRecord
  dsimp only
  split
  · rfl
  all_goals split <;> rfl

theorem findRecord_steady : (findRecord s).steady = s.steady := by
  unfold findRecord
  dsimp only
  split
  · rfl
  · split
    · unfold findAddress
      dsimp only
      split <;> rfl
    · rfl

variable {s} in
theorem onVersionC_steady {own : CRecord → State → State} (h : ∀ r, (own r s).steady = s.steady) (slot : CSlot)
    (v : Byte) : (onVersionC slot v own s).steady = s.steady := by
  unfold onVersionC
  split
  · rfl
  · split
    · exact h _
    · rfl

variable {s} in
theorem onVersionS_steady {own : SRecord → State → State} (h : ∀ r, (own r s).steady = s.steady) (slot : SSlot)
    (v : Byte) : (onVersionS slot v own s).steady = s.steady := by
  unfold onVersionS
  split
  · rfl
  · split
    · exact h _
    · rfl

theorem retireRecord_steady : (retireRecord s).steady = s.steady := by
  unfold retireRecord
  split
  · exact onVersionC_steady (fun r => by simp) _ _
  · exact onVersionS_steady (fun _ => rfl) _ _
  · rfl

theorem pinRecord_steady : (pinRecord s).steady = s.steady := by
  unfold pinRecord
  split
  · refine onVersionC_steady (fun r => ?_) _ _
    unfold pinOwn
    split
    · rfl
    · split <;> rfl
  · rfl

theorem unpinRecord_steady : (unpinRecord s).steady = s.steady := by
  unfold unpinRecord
  split
  · refine onVersionC_steady (fun r => ?_) _ _
    unfold unpinOwn
    split <;> rfl
  · rfl

theorem settleRecord_steady : (settleRecord s).steady = s.steady := by
  unfold settleRecord
  split
  · refine onVersionS_steady (fun r => ?_) _ _
    unfold settleOwn
    split <;> rfl
  · rfl

variable {s} in
theorem foldl_withdraw_steady (slots : List CSlot) :
    (slots.foldl (fun s slot => withdraw slot s) s).steady = s.steady := by
  induction slots generalizing s with
  | nil => rfl
  | cons slot rest ih => rw [List.foldl_cons, ih, withdraw_steady]

theorem clearTables_steady : (clearTables s).steady = s.steady := by
  unfold clearTables
  split
  · rfl
  · dsimp only
    exact foldl_withdraw_steady _

theorem decay_steady (ix : RegionIx) : (decay ix s).steady = s.steady := by
  unfold decay
  dsimp only
  split <;> rfl

/-! ## Notices and escalation -/

theorem ackNotice_steady : (ackNotice s).steady = s.steady := by
  unfold ackNotice
  split
  · rfl
  · split
    · unfold postLost
      split <;> rfl
    · rfl

theorem reachNotice_steady (seq : Word) : (reachNotice seq s).steady = s.steady := by
  unfold reachNotice
  split
  · split
    · rw [takeCause_steady]
      rfl
    · rfl
  · rfl

theorem reachHold_steady : (reachHold s).steady = s.steady := by
  unfold reachHold
  split <;> simp

theorem clearFault_steady : (clearFault s).steady = s.steady := by
  unfold clearFault
  split
  · rfl
  · rfl
  · split <;> rfl

theorem readReaction_steady : (readReaction s).steady = s.steady := by
  unfold readReaction
  split
  · rfl
  · split <;> rfl

/-! ## Ports -/

theorem takeHello_steady (ix : PortIx) (next : Byte) (reporter : Word) :
    (takeHello ix next reporter s).steady = s.steady := by
  unfold takeHello
  split <;> simp [openLink, sendFrame]

theorem judgeFrame_steady (ix : PortIx) (f : ReportFrame) : (judgeFrame ix f s).steady = s.steady := by
  unfold judgeFrame
  dsimp only
  split
  · rfl
  · split
    · rfl
    · unfold admitReport
      split
      · rfl
      · split
        · rfl
        · split <;> rfl

theorem takeReportFrame_steady (ix : PortIx) (f : ReportFrame) : (takeReportFrame ix f s).steady = s.steady := by
  unfold takeReportFrame
  split
  · rfl
  · rfl
  · exact judgeFrame_steady _ _ _
  · rfl

theorem takeVerdict_steady (ix : PortIx) (tag result : Byte) : (takeVerdict ix tag result s).steady = s.steady := by
  unfold takeVerdict
  split
  · unfold matchVerdict
    split
    · split
      · unfold verdictNotification
        split <;> rfl
      · rfl
    · rfl
  all_goals rfl

theorem completeGood_steady (ix : PortIx) (f : InFrame) : (completeGood ix f s).steady = s.steady := by
  unfold completeGood
  split
  · have ended : (endReception ix s).steady = s.steady := rfl
    cases f with
    | hello next reporter => exact (takeHello_steady _ _ _ _).trans ended
    | report frame => exact (takeReportFrame_steady _ _ _).trans ended
    | verdict tag result => exact (takeVerdict_steady _ _ _ _).trans ended
  · rfl

theorem completeBytes_steady (ix : PortIx) (bytes : List Byte) : (completeBytes ix bytes s).steady = s.steady := by
  unfold completeBytes
  split
  · exact completeGood_steady _ _ _
  · split <;> simp
  · rfl

theorem lowPeriod_steady (ix : PortIx) (high low : Clocks) : (lowPeriod ix high low s).steady = s.steady := by
  unfold lowPeriod
  split
  · rfl
  all_goals
    unfold lowPeriodOf
    split
    · simp [steady_iff]
    · split <;> simp [steady_iff]

theorem timeoutFrame_steady (ix : PortIx) : (timeoutFrame ix s).steady = s.steady := by
  unfold timeoutFrame
  split <;> simp

theorem setPort_steady (ix : PortIx) : (setPort ix s).steady = s.steady := by
  unfold setPort setPortMode
  dsimp only
  rw [complete_steady]
  split <;> simp

theorem restartPort_steady (ix : PortIx) : (restartPort ix s).steady = s.steady := by
  unfold restartPort
  split <;> rfl

/-! ## The verify scheduler -/

theorem dispatchTo_steady (ix : PortIx) : (dispatchTo ix s).steady = s.steady := by
  unfold dispatchTo
  split <;> rfl

@[simp] theorem cancelJob_steady (j : Job) (reason : CancelReason) : (cancelJob j reason s).steady = s.steady := by
  unfold cancelJob
  split <;> rfl

theorem preemptOn_steady (ix : PortIx) : (preemptOn ix s).steady = s.steady := by
  unfold preemptOn
  split <;> simp

theorem timeoutJob_steady (slot : CSlot) : (timeoutJob slot s).steady = s.steady := by
  unfold timeoutJob
  split
  · split <;> simp
  · rfl

theorem takeDispatch_steady (ix : PortIx) : (takeDispatch ix s).steady = s.steady := by
  unfold takeDispatch
  split
  · unfold takeDispatchOf
    dsimp only
    split
    · unfold flyJob
      split <;> rfl
    · unfold refuseOffer
      split <;> rfl
  · rfl

theorem cancelOutcome_steady (ix : PortIx) (tag : Tag) : (cancelOutcome ix tag s).steady = s.steady := by
  unfold cancelOutcome
  split
  · rfl
  · split <;> rfl

theorem takeCancel_steady (ix : PortIx) : (takeCancel ix s).steady = s.steady := by
  unfold takeCancel
  split
  · unfold takeCancelOf
    dsimp only
    split
    · exact cancelOutcome_steady _ _ _
    · rfl
  · rfl

/-! ## The host window -/

theorem acceptCommand_steady (c : Command) : (acceptCommand c s).steady = s.steady := by
  unfold acceptCommand
  split
  · split <;> rfl
  · split
    · unfold setTiming
      split
      · rfl
      · split <;> rfl
    · rfl
    · rfl

theorem writeCommand_steady (code : Word) : (writeCommand code s).steady = s.steady := by
  unfold writeCommand
  split
  · rfl
  all_goals
    split
    · exact acceptCommand_steady _ _
    · rfl

theorem writeRegister_steady (a : BitVec 5) (word : Word) : (writeRegister a word s).steady = s.steady := by
  unfold writeRegister
  split
  · rfl
  · split
    · exact writeCommand_steady _ _
    · split <;> rfl

end

/-! ## A happening is carried out or changes nothing -/

section
variable {s : State}

theorem whenRunning_eq (f : State → State) (s : State) : whenRunning f s = s ∨ whenRunning f s = f s := by
  unfold whenRunning
  split
  · exact .inl rfl
  · exact .inr rfl

theorem takeByOwner_eq (c : Command) (o : Owner) (body : State → State) (s : State) :
    takeByOwner c o body s = s ∨ takeByOwner c o body s = body s := by
  refine (whenRunning_eq _ s).elim .inl fun running => ?_
  rw [takeByOwner, running]
  split
  · exact .inr rfl
  · exact .inl rfl

theorem takeByPort_eq (c : Command) (body : PortIx → State → State) (s : State) :
    takeByPort c body s = s ∨ ∃ ix, takeByPort c body s = body ix s := by
  refine (whenRunning_eq _ s).elim .inl fun running => ?_
  rw [takeByPort, running]
  split
  · split
    · exact .inr ⟨_, rfl⟩
    · exact .inl rfl
  · exact .inl rfl

theorem whenRunning_steady {f : State → State} (h : (f s).steady = s.steady) : (whenRunning f s).steady = s.steady := by
  rcases whenRunning_eq f s with e | e
  · rw [e]
  · rw [e, h]

theorem takeByOwner_steady {c : Command} {o : Owner} {body : State → State} (h : (body s).steady = s.steady) :
    (takeByOwner c o body s).steady = s.steady := by
  rcases takeByOwner_eq c o body s with e | e
  · rw [e]
  · rw [e, h]

theorem takeByPort_steady {c : Command} {body : PortIx → State → State} (h : ∀ ix, (body ix s).steady = s.steady) :
    (takeByPort c body s).steady = s.steady := by
  rcases takeByPort_eq c body s with e | ⟨ix, e⟩
  · rw [e]
  · rw [e, h]

/-! ## The commands that own one of these parts -/

/-- The rows that change the time base, the engine state or the reset inputs. -/
def ownsSteady : Instr → Bool
  | .tick | .enterConfig | .leaveConfig => true
  | i => isResetRow i

/-- Every other command leaves all four parts unchanged. -/
theorem exec_steady {i : Instr} {t : State} (hi : ownsSteady i = false) (h : exec i s = .next t) :
    t.steady = s.steady := by
  cases i
  case takeAnsweredJob => exact execTakeAnsweredJob_steady h
  case verifyRecord => exact execVerifyRecord_steady h
  case tick | enterConfig | leaveConfig | porstAssert | porstRelease | wrstAssert | endOfWarmReset => cases hi
  all_goals cases h
  case takeReport => exact whenRunning_steady (takeReport_steady s)
  case setMemory => exact takeByOwner_steady (setMemory_steady s)
  case readMemory => exact takeByOwner_steady (readMemory_steady s)
  case setRegion => exact takeByOwner_steady (setRegion_steady s)
  case readRegion => exact takeByOwner_steady (readRegion_steady s)
  case unmuteRegion => exact takeByOwner_steady (unmuteRegion_steady s)
  case fetchRecord => exact takeByOwner_steady (fetchRecord_steady s)
  case findRecord => exact takeByOwner_steady (findRecord_steady s)
  case retireRecord => exact takeByOwner_steady (retireRecord_steady s)
  case pinRecord => exact takeByOwner_steady (pinRecord_steady s)
  case unpinRecord => exact takeByOwner_steady (unpinRecord_steady s)
  case settleRecord => exact takeByOwner_steady (settleRecord_steady s)
  case clearTables => exact takeByOwner_steady (clearTables_steady s)
  case setPort => exact takeByPort_steady (setPort_steady s)
  case restartPort => exact takeByPort_steady (restartPort_steady s)
  case flushPort => exact takeByPort_steady fun _ => rfl
  case readPort => exact takeByPort_steady fun _ => rfl
  case ackNotice => exact takeByOwner_steady (ackNotice_steady s)
  case clearFault => exact takeByOwner_steady (clearFault_steady s)
  case readReaction => exact takeByOwner_steady (readReaction_steady s)
  case setTiming | readTiming | unknownCommand | commandOverrun | commandAccepted =>
    exact whenRunning_steady (writeCommand_steady s _)
  case setInterruptEnables | markSeen => exact whenRunning_steady rfl
  case stampLoRead => split <;> rfl
  case registerWrite => exact whenRunning_steady (writeRegister_steady s _ _)
  case startDelimiter | longLowPeriod => exact whenRunning_steady (lowPeriod_steady s _ _ _)
  case hello | report | verdict => exact whenRunning_steady (completeGood_steady s _ _)
  case badFrame => exact whenRunning_steady (completeBytes_steady s _ _)
  case frameTimeout => exact whenRunning_steady (timeoutFrame_steady s _)
  case outboundFrameSent => exact whenRunning_steady rfl
  case dispatch => exact whenRunning_steady (dispatchTo_steady s _)
  case takeDispatch => exact whenRunning_steady (takeDispatch_steady s _)
  case preempt => exact whenRunning_steady (preemptOn_steady s _)
  case verifyTimeout => exact whenRunning_steady (timeoutJob_steady s _)
  case cancelRequest => exact whenRunning_steady (takeCancel_steady s _)
  case noticeDeadline => exact whenRunning_steady (reachNotice_steady s _)
  case faultHoldExpiry => exact whenRunning_steady (reachHold_steady s)
  case decayDeadline => exact whenRunning_steady (decay_steady s _)

theorem takeByOwner_keeps {c : Command} {o : Owner} {body : State → State}
    (h : (body s).pending = s.pending ∧ (body s).time = s.time ∧ (body s).resets = s.resets) :
    (takeByOwner c o body s).pending = s.pending ∧ (takeByOwner c o body s).time = s.time ∧
      (takeByOwner c o body s).resets = s.resets := by
  rcases takeByOwner_eq c o body s with e | e
  · rw [e]
    exact ⟨rfl, rfl, rfl⟩
  · rw [e]
    exact h

theorem enterConfig_keeps (s : State) : (enterConfig s).pending = s.pending ∧ (enterConfig s).time = s.time ∧
    (enterConfig s).resets = s.resets := by
  unfold enterConfig
  split <;> exact ⟨rfl, rfl, rfl⟩

theorem leaveConfig_keeps (s : State) : (leaveConfig s).pending = s.pending ∧ (leaveConfig s).time = s.time ∧
    (leaveConfig s).resets = s.resets := by
  unfold leaveConfig
  split <;> exact ⟨rfl, rfl, rfl⟩

/-- The assertion of WRST leaves the queue and the time base. -/
theorem assertWrst_keeps (s : State) : (assertWrst s).pending = s.pending ∧ (assertWrst s).time = s.time := by
  unfold assertWrst
  split
  · exact ⟨rfl, rfl⟩
  · split <;> exact ⟨rfl, rfl⟩

theorem postOutcome_steady (failing : Nat) (s : State) : (postOutcome failing s).steady = s.steady := by
  unfold postOutcome
  dsimp only
  split <;> simp

theorem checkRetained_steady (s : State) : (checkRetained s).steady = s.steady := by
  simp only [State.steady, checkRetained, Engine.adjusted, Engine.checkedRegions, Engine.checkedRecords]

theorem disturbRetained_steady (d : Disturbance) (s : State) : (disturbRetained d s).steady = s.steady := by
  simp only [State.steady, disturbRetained, Engine.disturbed]

theorem endSteps_steady (s : State) : (endSteps s).steady = s.steady := by
  rw [endSteps, postOutcome_steady, checkRetained_steady]

/-- The release of WRST leaves the queue, the time base and the engine state. -/
theorem releaseWrst_keeps (d : Disturbance) (s : State) : (releaseWrst d s).pending = s.pending ∧
    (releaseWrst d s).time = s.time ∧ (releaseWrst d s).engine.mode = s.engine.mode := by
  unfold releaseWrst
  dsimp only
  split
  · obtain ⟨pending, time, mode, -⟩ := steady_iff.mp ((endSteps_steady _).trans (disturbRetained_steady d _))
    exact ⟨pending, time, mode⟩
  · exact ⟨rfl, rfl, rfl⟩

end

/-- What a command leaves unchanged of the four parts. -/
theorem exec_keeps {i : Instr} {s t : State} (h : exec i s = .next t) :
    t.pending = s.pending ∧
    (i ≠ .tick → i ≠ .porstAssert → t.time = s.time) ∧
    (i ≠ .enterConfig → i ≠ .leaveConfig → i ≠ .porstAssert → i ≠ .wrstAssert →
      t.engine.mode = s.engine.mode) ∧
    (i ≠ .porstAssert → i ≠ .porstRelease → i ≠ .wrstAssert → (∀ d, i ≠ .endOfWarmReset d) →
      t.resets = s.resets) := by
  cases owned : ownsSteady i with
  | false =>
    obtain ⟨pending, time, mode, resets⟩ := steady_iff.mp (exec_steady owned h)
    exact ⟨pending, fun _ _ => time, fun _ _ _ _ => mode, fun _ _ _ _ => resets⟩
  | true =>
    cases i
    case tick =>
      cases h
      exact ⟨tickOnce_pending s, fun own => absurd rfl own, fun _ _ _ _ => congrArg _ (tickOnce_engine s),
        fun _ _ _ _ => tickOnce_resets s⟩
    case enterConfig =>
      cases h
      obtain ⟨pending, time, resets⟩ := takeByOwner_keeps (enterConfig_keeps s)
      exact ⟨pending, fun _ _ => time, fun own => absurd rfl own, fun _ _ _ _ => resets⟩
    case leaveConfig =>
      cases h
      obtain ⟨pending, time, resets⟩ := takeByOwner_keeps (leaveConfig_keeps s)
      exact ⟨pending, fun _ _ => time, fun _ own => absurd rfl own, fun _ _ _ _ => resets⟩
    case porstAssert =>
      cases h
      exact ⟨rfl, fun _ own => absurd rfl own, fun _ _ own => absurd rfl own, fun own => absurd rfl own⟩
    case porstRelease =>
      cases h
      exact ⟨rfl, fun _ _ => rfl, fun _ _ _ _ => rfl, fun _ own => absurd rfl own⟩
    case wrstAssert =>
      cases h
      obtain ⟨pending, time⟩ := assertWrst_keeps s
      exact ⟨pending, fun _ _ => time, fun _ _ _ own => absurd rfl own, fun _ _ own => absurd rfl own⟩
    case endOfWarmReset d =>
      cases h
      obtain ⟨pending, time, mode⟩ := releaseWrst_keeps d s
      exact ⟨pending, fun _ _ => time, fun _ _ _ _ => mode, fun _ _ _ own => absurd rfl (own d)⟩
    all_goals cases owned

/-! ## A part that is held -/

/-- At a part that is held every command but the tick, the read of STAMP_LO and the rows of the reset inputs changes
nothing (R102, R125, R141, R155). -/
theorem exec_held {i : Instr} {s : State} (h : s.held = true) (tick : i ≠ .tick) (read : i ≠ .stampLoRead)
    (row : isResetRow i = false) : exec i s = .next s := by
  cases i
  case tick => exact absurd rfl tick
  case stampLoRead => exact absurd rfl read
  case porstAssert | porstRelease | wrstAssert | endOfWarmReset => cases row
  case takeAnsweredJob => exact if_pos (by rw [h]; rfl)
  case verifyRecord => exact if_neg (by rw [h]; nofun)
  all_goals exact congrArg _ (whenRunning_held _ h)

theorem isResetRow_eq_false {i : Instr} (assert : i ≠ .porstAssert) (release : i ≠ .porstRelease)
    (warm : i ≠ .wrstAssert) (finish : ∀ d, i ≠ .endOfWarmReset d) : isResetRow i = false := by
  cases i
  case porstAssert => exact absurd rfl assert
  case porstRelease => exact absurd rfl release
  case wrstAssert => exact absurd rfl warm
  case endOfWarmReset d => exact absurd rfl (finish d)
  all_goals rfl

/-! ## A command that is not pending with its owner -/

section
variable {s : State} {c : Command}

/-- An owner does not take a command that does not wait with it (R69, R168). -/
theorem takeByOwner_idle {o : Owner} {body : State → State} (h : ¬ Waiting c o s) : takeByOwner c o body s = s := by
  cases held : s.held with
  | true => exact whenRunning_held _ held
  | false => exact takeByOwner_other fun pending => h ⟨held, pending⟩

/-- No port takes a command that waits with none (R96, R168). -/
theorem takeByPort_idle {body : PortIx → State → State} (h : ∀ ix : PortIx, ¬ Waiting c (.port ix) s) :
    takeByPort c body s = s := by
  cases held : s.held with
  | true => exact whenRunning_held _ held
  | false =>
    refine (whenRunning_running _ held).trans ?_
    split
    next other ix pending => exact if_neg fun (same : other = c) => h ix ⟨held, same ▸ pending⟩
    next => rfl

theorem execVerifyRecord_idle (h : ¬ Waiting .verifyRecord .engine s) : exec .verifyRecord s = .next s := by
  refine if_neg fun waits => h ?_
  obtain ⟨running, pending⟩ := (Bool.and_eq_true _ _).mp waits
  exact ⟨by simpa using running, beq_iff_eq.mp pending⟩

end

/-- Settles O3: the four parts command by command, the part that is held, and the commands that are not taken. -/
theorem whatCommandsLeaveUnchanged : Obligations.WhatCommandsLeaveUnchanged := by
  unfold Obligations.WhatCommandsLeaveUnchanged
  refine ⟨fun i s t => exec_keeps, held_iff, fun i s held => ⟨fun tick read assert release warm finish => ?_, ?_⟩,
    fun s i c o row idle => ?_, fun s i c row idle => ?_⟩
  · exact exec_held held tick read (isResetRow_eq_false assert release warm finish)
  · exact congrArg _ (if_pos held)
  · simp only [List.mem_cons, Prod.mk.injEq, List.not_mem_nil, or_false] at row
    rcases row with ⟨rfl, rfl, rfl⟩ | ⟨rfl, rfl, rfl⟩ | ⟨rfl, rfl, rfl⟩ | ⟨rfl, rfl, rfl⟩ | ⟨rfl, rfl, rfl⟩ |
      ⟨rfl, rfl, rfl⟩ | ⟨rfl, rfl, rfl⟩ | ⟨rfl, rfl, rfl⟩ | ⟨rfl, rfl, rfl⟩ | ⟨rfl, rfl, rfl⟩ | ⟨rfl, rfl, rfl⟩ |
      ⟨rfl, rfl, rfl⟩ | ⟨rfl, rfl, rfl⟩ | ⟨rfl, rfl, rfl⟩ | ⟨rfl, rfl, rfl⟩ | ⟨rfl, rfl, rfl⟩ | ⟨rfl, rfl, rfl⟩ |
      ⟨rfl, rfl, rfl⟩
    on_goal 15 => exact execVerifyRecord_idle idle
    all_goals exact congrArg _ (takeByOwner_idle idle)
  · simp only [List.mem_cons, Prod.mk.injEq, List.not_mem_nil, or_false] at row
    rcases row with ⟨rfl, rfl⟩ | ⟨rfl, rfl⟩ | ⟨rfl, rfl⟩ | ⟨rfl, rfl⟩ <;> exact congrArg _ (takeByPort_idle idle)

end Sys2Proof.Machine
end

section
/-! SUPPORT. The engine's own side of the record engine: the engine state commands, and TAKE_ANSWERED_JOB up to the
application of the answer, which is the same for the three answers. -/

namespace Sys2Proof.Machine

section
variable {s : State}

/-! ## The engine state -/

theorem exec_enterConfig (h : Waiting .enterConfig .engine s) : exec .enterConfig s = .next (enterConfig s) :=
  congrArg _ (takeByOwner_waiting h)

theorem exec_leaveConfig (h : Waiting .leaveConfig .engine s) : exec .leaveConfig s = .next (leaveConfig s) :=
  congrArg _ (takeByOwner_waiting h)

theorem enterConfig_run (h : s.engine.mode = .run) : enterConfig s = complete .ok none (s.setMode .config) := by
  rw [enterConfig, h]

theorem enterConfig_config (h : s.engine.mode = .config) : enterConfig s = complete .already none s := by
  rw [enterConfig, h]

theorem leaveConfig_config (h : s.engine.mode = .config) : leaveConfig s = complete .ok none (s.setMode .run) := by
  rw [leaveConfig, h]

theorem leaveConfig_run (h : s.engine.mode = .run) : leaveConfig s = complete .already none s := by
  rw [leaveConfig, h]

/-! ## TAKE_ANSWERED_JOB -/

theorem engineCommandPending_eq_false (h : ∀ c, s.win.command ≠ some ⟨c, .engine⟩) :
    s.engineCommandPending = false := by
  unfold State.engineCommandPending
  split
  next c pending => exact absurd pending (h c)
  next => rfl

/-- Behind an engine command no answer is taken (R63). -/
theorem exec_takeAnsweredJob_pending (h : s.engineCommandPending = true) : exec .takeAnsweredJob s = .next s :=
  if_pos (by rw [h, Bool.or_true])

/-- With no job ANSWERED there is nothing to take, whether or not an engine command is pending. -/
theorem exec_takeAnsweredJob_none (empty : s.sched.answered = []) : exec .takeAnsweredJob s = .next s := by
  show execTakeAnsweredJob s = _
  rw [execTakeAnsweredJob, empty]
  exact ite_self _

variable {before after : List Job} {j : Job} {rest : List CSlot} {r : CRecord} {a : Answer}

theorem answeredAt_due (h : AnswerDue before j after rest r a s) : answeredAt j.slot s = some (j, r, a) := by
  obtain ⟨-, -, -, -, job, ⟨port, tag, mode⟩, record⟩ := h
  simp only [answeredAt, jobFor_at job, record, mode]

/-- The answer that is due is applied (R63, R117). -/
theorem exec_takeAnsweredJob_due (h : AnswerDue before j after rest r a s) :
    exec .takeAnsweredJob s = .next (applyAnswer j.slot j r a s) := by
  have found := answeredAt_due h
  obtain ⟨running, free, order, -⟩ := h
  show execTakeAnsweredJob s = _
  rw [execTakeAnsweredJob, running, engineCommandPending_eq_false free, order]
  simp [found]

/-- The job whose answer is due leaves the queue, and the order of ANSWERED jobs loses its head (R104). -/
theorem removeJob_due (h : AnswerDue before j after rest r a s) :
    removeJob j.slot s = { s with sched := { s.sched with jobs := before ++ after, answered := rest } } := by
  obtain ⟨-, -, order, once, job, -⟩ := h
  have others : rest.filter (fun k => k != j.slot) = rest :=
    List.filter_eq_self.mpr fun k mem => bne_iff_ne.mpr fun same => once (same ▸ mem)
  rw [removeJob, withoutJob_at job, order, List.filter_cons_of_neg (by simp), others]
  rfl

/-! ## A FAILED answer -/

/-- Below the retry limit the job goes to the tail of its class with one more attempt (R120, R105). -/
theorem applyFailed_requeues {slot : CSlot} (below : j.attempts.toNat + 1 < s.win.settings.retryLimit.toNat) :
    applyFailed slot j r s = (removeJob slot s).setJobs
      (insertTail { j with attempts := j.attempts + 1, mode := .queued none } (removeJob slot s).sched.jobs) :=
  if_pos below

/-- At the retry limit the record is UNVERIFIED, and the failure is announced (R120). -/
theorem applyFailed_exhausts {slot : CSlot} (limit : s.win.settings.retryLimit.toNat ≤ j.attempts.toNat + 1) :
    applyFailed slot j r s =
      post (.verifyFailed (.c slot) (r.core.version + 1) r.core.key r.core.region) false
        ((removeJob slot s).putC slot r.exhausted) :=
  if_neg (Nat.not_lt.mpr limit)

end

/-- Settles O4: each of the two commands in both engine states. -/
theorem enterAndLeaveConfig : Obligations.EnterAndLeaveConfig := by
  unfold Obligations.EnterAndLeaveConfig
  refine fun s => ⟨fun waits run => ?_, fun waits config => ?_, fun waits config => ?_, fun waits run => ?_⟩
  · rw [exec_enterConfig waits, enterConfig_run run]
    rfl
  · rw [exec_enterConfig waits, enterConfig_config config]
  · rw [exec_leaveConfig waits, leaveConfig_config config]
    rfl
  · rw [exec_leaveConfig waits, leaveConfig_run run]

/-- Settles O27: the answer is applied once it is due, and the retry limit decides between the two outcomes. -/
theorem failedAnswerApplied : Obligations.FailedAnswerApplied := by
  unfold Obligations.FailedAnswerApplied
  refine fun s => ⟨fun _ idle => ?_, fun before j after rest r due => ⟨fun limit => ?_, ?_⟩⟩
  · rcases idle with empty | ⟨c, pending⟩
    · exact exec_takeAnsweredJob_none empty
    · exact exec_takeAnsweredJob_pending (engineCommandPending_of pending)
  · rw [exec_takeAnsweredJob_due due, applyAnswer, applyFailed_exhausts limit, removeJob_due due]
    rfl
  · intro below again urgents normals split urgent normal
    rw [exec_takeAnsweredJob_due due, applyAnswer, applyFailed_requeues below, removeJob_due due]
    show Host.Outcome.next (State.setJobs _ (insertTail again (before ++ after))) = _
    rw [split, insertTail_split again urgent normal]
    rfl

end Sys2Proof.Machine
end

section
/-! SUPPORT. Verification: VERIFY_RECORD, the CLEAN and PERSISTS answers, the scheduler's decisions for a port, the verify
deadline, and the return of a job to its class. -/

namespace Sys2Proof.Machine

section
variable {s : State} {before after : List Job} {j : Job} {ix : PortIx} {tag : Tag}

/-! ## Searches of the verify queue -/

/-- The first job of which a proposition holds is the one that a search for it finds. -/
theorem find_first_of_iff {p : Job → Bool} {P : Job → Prop} (spec : ∀ k, p k = true ↔ P k) (h : JobAt before j after s)
    (found : P j) (first : ∀ k ∈ before, ¬ P k) : s.sched.jobs.find? p = some j :=
  find_first h ((spec j).mpr found) fun k mem => Bool.eq_false_iff.mpr (mt (spec k).mp (first k mem))

/-! ## The return of a job -/

theorem returnToHead_at (h : JobAt before j after s) :
    returnToHead j s = s.withJobs (insertHead { j with mode := .queued none } (before ++ after)) := by
  rw [returnToHead, withoutJob_at h]
  rfl

theorem returnJob_none (h : ∀ j ∈ s.sched.jobs, ∀ d c, j.mode ≠ .inFlight ix tag d c) : returnJob ix tag s = s := by
  have missing : s.sched.jobs.find? (Job.inFlightOn ix tag) = none :=
    List.find?_eq_none.mpr fun j mem flies =>
      let ⟨d, c, mode⟩ := (inFlightOn_iff ix tag j).mp flies
      h j mem d c mode
  rw [returnJob, missing]

/-- The first job IN_FLIGHT on the port with the tag is the one returned (R116). -/
theorem returnJob_at (h : JobAt before j after s) (flies : ∃ d c, j.mode = .inFlight ix tag d c)
    (first : ∀ k ∈ before, ∀ d c, k.mode ≠ .inFlight ix tag d c) : returnJob ix tag s = returnToHead j s := by
  have found : s.sched.jobs.find? (Job.inFlightOn ix tag) = some j :=
    find_first_of_iff (inFlightOn_iff ix tag) h flies fun k mem ⟨d, c, mode⟩ => first k mem d c mode
  rw [returnJob, found]

/-! ## CLEAN and PERSISTS answers -/

theorem satInc_nibble (x : BitVec 4) : satInc x = if x = 15 then 15 else x + 1 := by
  have top : BitVec.allOnes 4 = 15 := by decide
  unfold satInc
  rw [top]
  split
  next e => exact e
  next => rfl

/-- Below its region's soft limit, or with a limit of 0, a CLEAN answer leaves the record COUNTING (R118). -/
theorem CRecord.clean_counts {r : CRecord} {limit : BitVec 4}
    (below : softLimitReached limit (satInc r.softVerdicts) = false) :
    r.clean limit = { r with
      core := r.core.advanced, hitsSinceVerdict := 0, softVerdicts := satInc r.softVerdicts
      lastVerdict := .clean, mode := .counting, hardReason := none } := by
  simp only [CRecord.clean, below, Bool.false_eq_true, if_false]

/-- At its region's soft limit a CLEAN answer makes the record HARD (R118). -/
theorem CRecord.clean_hardens {r : CRecord} {limit : BitVec 4}
    (reached : softLimitReached limit (satInc r.softVerdicts) = true) :
    r.clean limit = { r with
      core := r.core.advanced, hitsSinceVerdict := 0, softVerdicts := satInc r.softVerdicts
      lastVerdict := .clean, mode := .hard, hardReason := some .repeatedSoft } := by
  simp only [CRecord.clean, reached, if_true]

/-! ## VERIFY_RECORD -/

theorem verifyRecord_c {slot : CSlot} {r : CRecord} (hn : namedRecord s = some (.c slot))
    (h : s.engine.cTable[slot] = some r) : verifyRecord s = verifyC slot r s := by
  simp only [verifyRecord, hn, h]

theorem verifyC_suspect {slot : CSlot} {r : CRecord} (h : r.mode = .suspect) :
    verifyC slot r s = verifySuspect slot s := by
  rw [verifyC, h]

/-- On a record with no job VERIFY_RECORD asks for room in the verify queue (R122). -/
theorem verifyC_other {slot : CSlot} {r : CRecord} (h : r.mode ≠ .suspect) :
    verifyC slot r s =
      if s.queueRoom then .next (complete .ok none (enterJob slot { r with core := r.core.advanced } .urgent s))
      else .next (complete .full none s) := by
  unfold verifyC
  split
  next suspect => exact absurd suspect h
  all_goals rfl

/-- A QUEUED NORMAL job is hurried, its attempts and offer kept (R122). -/
theorem verifySuspect_raises {offer : Option (PortIx × Tag)} (h : JobAt before j after s)
    (normal : j.cls = .normal) (queued : j.mode = .queued offer) :
    verifySuspect j.slot s =
      .next (complete .ok none (s.withJobs (insertTail { j with cls := .urgent } (before ++ after)))) := by
  simp only [verifySuspect, jobFor_at h, normal, queued, raiseJob, withoutJob_at h]
  rfl

/-- An URGENT job, and one that is not QUEUED, is left as it is (R122). -/
theorem verifySuspect_already (h : JobAt before j after s)
    (other : j.cls = .urgent ∨ ∀ offer, j.mode ≠ .queued offer) :
    verifySuspect j.slot s = .next (complete .already none s) := by
  rw [verifySuspect, jobFor_at h]
  dsimp only
  split
  next offer queued normal =>
    rcases other with urgent | flown
    · exact nomatch urgent.symm.trans normal
    · exact absurd queued (flown offer)
  next => rfl

/-! ## DISPATCH -/

theorem exec_dispatch (running : s.held = false) : exec (.dispatch ix) s = .next (dispatchTo ix s) :=
  congrArg _ (whenRunning_running _ running)

theorem ownsJob_iff : ownsJob ix s j = true ↔ s.engine.memories[j.key.mem].owner = some ix := beq_iff_eq

/-- A port is free under the three conditions of R107. -/
theorem portFree_iff : portFree ix s = true ↔ s.ports[ix].mode = .ready ∧
    (∀ tag, s.ports[ix].outstanding = some tag → Handover.cancel tag ∈ s.sched.handovers[ix]) ∧
    ∀ j ∈ s.sched.jobs, ∀ tag, j.mode ≠ .queued (some (ix, tag)) := by
  have offers : s.sched.jobs.any (Job.offeredTo ix) = false ↔
      ∀ j ∈ s.sched.jobs, ∀ tag, j.mode ≠ .queued (some (ix, tag)) := by
    simp only [List.any_eq_false, offeredTo_iff, not_exists, ne_eq]
  simp only [portFree, Bool.and_eq_true, beq_iff_eq, Option.all_eq_true, mem_cancelTags, Bool.not_eq_true', offers,
    and_assoc]

/-- A job waits for the port that owns its memory (R108). -/
theorem waitsFor_iff (ix : PortIx) (s : State) (j : Job) : (j.waiting && ownsJob ix s j) = true ↔
    j.mode = .queued none ∧ s.engine.memories[j.key.mem].owner = some ix := by
  rw [Bool.and_eq_true, waiting_iff, ownsJob_iff]

/-- The dispatch decision takes the first job that waits for the port (R108). -/
theorem dispatchJob_first (h : JobAt before j after s) (run : s.engine.mode = .run) (free : portFree ix s = true)
    (taken : dispatchUntaken ix s = false)
    (waits : j.mode = .queued none ∧ s.engine.memories[j.key.mem].owner = some ix)
    (first : ∀ k ∈ before, ¬ (k.mode = .queued none ∧ s.engine.memories[k.key.mem].owner = some ix)) :
    dispatchJob ix s = some j := by
  rw [dispatchJob, run, free, taken]
  exact (if_pos rfl).trans (find_first_of_iff (waitsFor_iff ix s) h waits first)

theorem dispatchTo_none (h : dispatchJob ix s = none) : dispatchTo ix s = s := by
  rw [dispatchTo, h]

theorem dispatchTo_some (h : dispatchJob ix s = some j) : dispatchTo ix s = offerJob ix j s := by
  rw [dispatchTo, h]

/-! ## PREEMPT and VERIFY_TIMEOUT -/

theorem exec_preempt (running : s.held = false) : exec (.preempt ix) s = .next (preemptOn ix s) :=
  congrArg _ (whenRunning_running _ running)

theorem exec_verifyTimeout {slot : CSlot} (running : s.held = false) :
    exec (.verifyTimeout slot) s = .next (timeoutJob slot s) :=
  congrArg _ (whenRunning_running _ running)

/-- The job IN_FLIGHT keeps its place, and its port is handed the cancel request (R112, R114). -/
theorem cancelJob_at {d : Option Stamp} {c : Option CancelReason} (h : JobAt before j after s)
    (flies : j.mode = .inFlight ix tag d c) (reason : CancelReason) :
    cancelJob j reason s = (s.withJobs (before ++ { j with mode := .inFlight ix tag none (some reason) } ::
      after)).withHandover ix (.cancel tag) := by
  simp only [cancelJob, flies, replaceJob_mode h]
  rfl

/-- An URGENT job waits for the port, and no URGENT job is IN_FLIGHT on it or offered to it (R114). -/
theorem urgentWaits_iff : urgentWaits ix s = true ↔
    (∃ u ∈ s.sched.jobs, u.cls = .urgent ∧ u.mode = .queued none ∧
      s.engine.memories[u.key.mem].owner = some ix) ∧
    ∀ u ∈ s.sched.jobs, u.cls = .urgent → ∀ tag,
      u.mode ≠ .queued (some (ix, tag)) ∧ ∀ d c, u.mode ≠ .inFlight ix tag d c := by
  rw [urgentWaits, Bool.and_eq_true, List.any_eq_true, Bool.not_eq_true', List.any_eq_false]
  refine and_congr (exists_congr fun u => and_congr_right' ?_) (forall₂_congr fun u _ => ?_)
  · simp only [Bool.and_eq_true, urgent_iff, waiting_iff, ownsJob_iff, and_assoc]
  · simp only [Bool.and_eq_true, Bool.or_eq_true, urgent_iff, flyingOn_iff, offeredTo_iff, not_and, not_or,
      not_exists, forall_and, and_comm, ne_eq]

/-- A NORMAL job IN_FLIGHT on the port with no cancel requested is one that can be preempted (R114). -/
theorem preemptible_iff (ix : PortIx) (j : Job) : (!j.urgent && j.uncancelledOn ix) = true ↔
    ∃ tag d, j.cls = .normal ∧ j.mode = .inFlight ix tag d none := by
  have normal : j.urgent = false ↔ j.cls = .normal := by
    unfold Job.urgent
    cases j.cls <;> decide
  simp only [Bool.and_eq_true, Bool.not_eq_true', normal, uncancelledOn_iff, exists_and_left]

/-- The preemption decision takes the first job that can be preempted (R114). -/
theorem preemptJob_first (h : JobAt before j after s) (run : s.engine.mode = .run) (wanted : urgentWaits ix s = true)
    (preemptible : ∃ tag d, j.cls = .normal ∧ j.mode = .inFlight ix tag d none)
    (first : ∀ k ∈ before, ¬ ∃ tag d, k.cls = .normal ∧ k.mode = .inFlight ix tag d none) :
    preemptJob ix s = some j := by
  rw [preemptJob, run, wanted]
  exact (if_pos rfl).trans (find_first_of_iff (preemptible_iff ix) h preemptible first)

/-- What the preemption decision chooses: in RUN, where an URGENT job waits, a job that can be preempted (R114). -/
theorem preemptJob_some (h : preemptJob ix s = some j) :
    s.engine.mode = .run ∧ urgentWaits ix s = true ∧ j ∈ s.sched.jobs ∧
      ∃ tag d, j.cls = .normal ∧ j.mode = .inFlight ix tag d none := by
  unfold preemptJob at h
  split at h
  next c =>
    obtain ⟨run, wanted⟩ := (Bool.and_eq_true _ _).mp c
    have preemptible := List.find?_some h
    exact ⟨beq_iff_eq.mp run, wanted, List.mem_of_find?_eq_some h, (preemptible_iff ix j).mp preemptible⟩
  next => cases h

theorem preemptOn_none (h : preemptJob ix s = none) : preemptOn ix s = s := by
  rw [preemptOn, h]

theorem preemptOn_some (h : preemptJob ix s = some j) : preemptOn ix s = cancelJob j .preempted s := by
  rw [preemptOn, h]

theorem deadline_inFlight {d : Option Stamp} {c : Option CancelReason} (flies : j.mode = .inFlight ix tag d c) :
    j.deadline = d := by
  rw [Job.deadline, flies]

/-- Only a job IN_FLIGHT holds a verify deadline (R103). -/
theorem deadline_none (h : ∀ ix tag d c, j.mode ≠ .inFlight ix tag (some d) c) : j.deadline = none := by
  unfold Job.deadline
  split
  next ix tag d c flies =>
    cases d with
    | none => rfl
    | some d => exact absurd flies (h ix tag d c)
  next => rfl

theorem timeoutJob_at (h : JobAt before j after s) :
    timeoutJob j.slot s = if reachedOpt s.time.stamp j.deadline then cancelJob j .timedOut s else s := by
  rw [timeoutJob, jobFor_at h]

theorem timeoutJob_idle {slot : CSlot} (h : ∀ j ∈ s.sched.jobs, j.slot = slot → j.deadline = none) :
    timeoutJob slot s = s := by
  unfold timeoutJob
  split
  next j found =>
    have same : j.slot = slot := by simpa using List.find?_some found
    rw [h j (List.mem_of_find?_eq_some found) same]
    rfl
  next => rfl

end

/-- Settles O15: the record's state decides between a new URGENT job, which needs room, and the hurrying of the one it
has (R122). -/
theorem verifyRecordEntersUrgentJob : Obligations.VerifyRecordEntersUrgentJob := by
  unfold Obligations.VerifyRecordEntersUrgentJob
  intro s slot r waits table named record
  have run : exec .verifyRecord s = verifyC slot r s :=
    (exec_verifyRecord waits).trans (verifyRecord_c (namedRecord_c table named) record)
  refine ⟨fun other full => ?_, fun urgents normals split urgent normal other room => ?_,
    fun before j after job same suspect => ?_⟩
  · rw [run, verifyC_other other, if_neg fun room => Nat.not_lt.mpr full ((queueRoom_iff s).mp room)]
  · rw [run, verifyC_other other, if_pos ((queueRoom_iff s).mpr room), enterJob, split,
      insertTail_split _ urgent normal]
    rfl
  · subst same
    rw [run, verifyC_suspect suspect]
    refine ⟨verifySuspect_already job, fun urgents normals offer split urgent normal cls queued => ?_⟩
    rw [verifySuspect_raises job cls queued, split, insertTail_split _ urgent normal]
    rfl

/-- Settles O26: the job leaves the queue, and the soft limit decides what a CLEAN answer makes of the record
(R118, R119). -/
theorem cleanAndPersistsAnswersApplied : Obligations.CleanAndPersistsAnswersApplied := by
  unfold Obligations.CleanAndPersistsAnswersApplied
  intro s before j after rest r
  refine ⟨fun due => ?_, fun due => ?_⟩
  · rw [exec_takeAnsweredJob_due due, applyAnswer, ← satInc_nibble]
    refine ⟨fun below => ?_, fun present limit => ?_⟩
    · have counts : softLimitReached (s.policy r.core.region).softLimit (satInc r.softVerdicts) = false := by
        refine Bool.eq_false_iff.mpr fun reached => ?_
        obtain ⟨present, limit⟩ := (softLimitReached_iff _ _).mp reached
        rcases below with absent | lower
        · exact present absent
        · exact absurd limit (BitVec.not_le.mpr lower)
      rw [applyClean, CRecord.clean_counts counts, removeJob_due due]
      rfl
    · have hardens : softLimitReached (s.policy r.core.region).softLimit (satInc r.softVerdicts) = true :=
        (softLimitReached_iff _ _).mpr ⟨present, limit⟩
      rw [applyClean, CRecord.clean_hardens hardens, removeJob_due due]
      rfl
  · rw [exec_takeAnsweredJob_due due, applyAnswer, applyPersists, removeJob_due due]
    rfl

/-- Settles O28: a job that the dispatch decision chooses meets every condition, and where all hold it chooses the first
(R107, R108). -/
theorem dispatchOffersFirstJob : Obligations.DispatchOffersFirstJob := by
  unfold Obligations.DispatchOffersFirstJob
  intro s ix running free untaken waits
  rw [exec_dispatch running]
  refine ⟨fun idle => ?_, fun before j after job run isFree isTaken waiting first => ?_⟩
  · refine congrArg _ (dispatchTo_none (Option.eq_none_iff_forall_ne_some.mpr fun j chosen => ?_))
    obtain ⟨run, isFree, isTaken, mem, queued, owned⟩ := dispatchJob_some chosen
    rcases idle with config | busy | left | nobody
    · exact nomatch config.symm.trans run
    · exact busy (portFree_iff.mp isFree)
    · exact Bool.eq_false_iff.mp isTaken ((dispatchUntaken_iff ix s).mpr left)
    · exact nobody j mem ⟨queued, owned⟩
  · have chosen : dispatchJob ix s = some j :=
      dispatchJob_first job run (portFree_iff.mpr isFree)
        (Bool.eq_false_iff.mpr (mt (dispatchUntaken_iff ix s).mp isTaken)) waiting first
    rw [dispatchTo_some chosen, offerJob, replaceJob_mode job]
    rfl

/-- Settles O30: a job that the preemption decision chooses meets every condition, and where all hold it chooses the
first; the verify deadline is that of the slot's one job (R112, R114). -/
theorem preemptAndVerifyTimeout : Obligations.PreemptAndVerifyTimeout := by
  unfold Obligations.PreemptAndVerifyTimeout
  intro s running
  refine ⟨?_, fun ix nobody => ?_, fun before j after ix tag d c job flies => ?_, fun slot nobody => ?_⟩
  · intro ix before j after tag d job flies normal first wanted
    rw [exec_preempt running]
    refine ⟨fun run isWanted => ?_, fun idle => ?_⟩
    · have chosen : preemptJob ix s = some j :=
        preemptJob_first job run (urgentWaits_iff.mpr isWanted) ⟨tag, d, normal, flies⟩
          fun k mem ⟨tag, d, both⟩ => first k mem tag d both
      rw [preemptOn_some chosen, cancelJob_at job flies]
    · refine congrArg _ (preemptOn_none (Option.eq_none_iff_forall_ne_some.mpr fun k chosen => ?_))
      obtain ⟨run, isWanted, -⟩ := preemptJob_some chosen
      rcases idle with config | unwanted
      · exact nomatch config.symm.trans run
      · exact unwanted (urgentWaits_iff.mp isWanted)
  · rw [exec_preempt running]
    refine congrArg _ (preemptOn_none (Option.eq_none_iff_forall_ne_some.mpr fun k chosen => ?_))
    obtain ⟨-, -, mem, tag, d, both⟩ := preemptJob_some chosen
    exact nobody k mem tag d both
  · rw [exec_verifyTimeout running, timeoutJob_at job, deadline_inFlight flies, reachedOpt_some]
    refine ⟨fun due => ?_, fun later => ?_⟩
    · rw [if_pos ((reached_iff _ _).mpr due), cancelJob_at job flies]
    · rw [if_neg fun due => Nat.not_lt.mpr later ((reached_iff _ _).mp due)]
  · rw [exec_verifyTimeout running, timeoutJob_idle fun j mem same => deadline_none (nobody j mem same)]

/-- Settles O32: the return finds the first job IN_FLIGHT on the port with the tag, and places it at the head of its
class (R116, R105). -/
theorem returnedJobHeadsItsClass : Obligations.ReturnedJobHeadsItsClass := by
  unfold Obligations.ReturnedJobHeadsItsClass
  refine fun s ix tag => ⟨returnJob_none, ?_⟩
  intro before j after d c job flies first urgents normals split urgent normal
  rw [returnJob_at job ⟨d, c, flies⟩ first, returnToHead_at job, split, insertHead_split _ urgent normal]

end Sys2Proof.Machine
end

section
/-! SUPPORT. The notice queue and the fault hold deadline: ACK_NOTICE, the notice window word by word, and the deadlines
that hand causes. -/

namespace Sys2Proof.Machine

/-! ## ACK_NOTICE -/

section
variable {s : State} {n : Notice} {rest : List Notice}

theorem exec_ackNotice (h : Waiting .ackNotice .notices s) : exec .ackNotice s = .next (ackNotice s) :=
  congrArg _ (takeByOwner_waiting h)

theorem postLost_zero (h : s.notices.lost = 0) : postLost s = s := if_pos h

/-- The LOST notice enters at the tail without a deadline, whatever room there is (R135). -/
theorem postLost_counted (h : s.notices.lost ≠ 0) : postLost s = s.setNotices
    { entries := s.notices.entries ++ [{ seq := s.notices.nextSeq, body := .lost s.notices.lost
                                         stamp := s.time.stamp, deadline := none, expired := false }]
      nextSeq := s.notices.nextSeq + 1, lost := 0 } := if_neg h

theorem ackNotice_empty (h : s.notices.entries = []) : ackNotice s = complete .notFound none s := by
  rw [ackNotice, h]

theorem ackNotice_mismatch (head : s.notices.entries = n :: rest) (other : s.win.params[0] ≠ n.seq) :
    ackNotice s = complete .mismatch none s := by
  rw [ackNotice, head]
  exact if_neg other

theorem ackNotice_head (head : s.notices.entries = n :: rest) (named : s.win.params[0] = n.seq) :
    ackNotice s = complete .ok none (postLost (s.setNotices { s.notices with entries := rest })) := by
  rw [ackNotice, head]
  exact if_pos named

end

/-! ## The words of Table 11-8 as fields side by side -/

/-- The table bit and the slot of a record as the high byte of a word (Table 11-8). -/
def RecRef.byte : RecRef → Byte
  | .c slot => 0#3 ++ BitVec.ofNat 5 slot.val
  | .s slot => 4#3 ++ BitVec.ofNat 5 slot.val

theorem RecRef.field_eq (ref : RecRef) : ref.field = fieldAt ref.byte 8 := by
  cases ref with
  | c slot => simp only [RecRef.field, RecRef.byte, fieldAt_append, fieldAt_zero, BitVec.or_zero]
  | s slot =>
    have table : flagAt true 15 = fieldAt 4#3 (8 + 5) := by decide
    rw [RecRef.field, RecRef.byte, fieldAt_append, table, BitVec.or_comm]

section
variable (a b c d : Bool) (kind region mem : BitVec 4) (high : Byte)

theorem noticeFlagsWord :
    fieldAt kind 0 ||| flagAt a 4 ||| flagAt b 5 ||| flagAt c 6 ||| (flagAt d 7 ||| fieldAt high 8) =
      high ++ BitVec.ofBool d ++ BitVec.ofBool c ++ BitVec.ofBool b ++ BitVec.ofBool a ++ kind :=
  word_of_fields (by simp only [flagAt, fieldAt_append, BitVec.or_assoc, Nat.zero_add])

theorem noticeKeyWord : fieldAt high 8 ||| fieldAt region 4 ||| fieldAt mem 0 = high ++ region ++ mem :=
  word_of_fields (by
    simp only [fieldAt_append, Nat.zero_add]
    rw [BitVec.or_comm, BitVec.or_comm (fieldAt high 8)])

end

/-! ## The notice window -/

section
variable {s : State}

/-- NOTICE0 to NOTICE5 read at 13h to 18h (Table 11-3). -/
theorem readRegister_notice (running : s.held = false) (k : Fin 6) :
    readRegister (BitVec.ofNat 5 (k.val + 0x13)) s = (noticeWindow s)[k] := by
  have notHeld : ¬ s.held = true := by rw [running]; nofun
  fin_cases k <;> exact if_neg notHeld

theorem readRegister_noNotice (running : s.held = false) (empty : s.notices.entries = []) {a : BitVec 5}
    (low : 0x13 ≤ a.toNat) (high : a.toNat ≤ 0x18) : readRegister a s = 0 := by
  obtain ⟨k, rfl⟩ : ∃ k : Fin 6, a = BitVec.ofNat 5 (k.val + 0x13) :=
    ⟨⟨a.toNat - 0x13, by omega⟩, BitVec.eq_of_toNat_eq (by simp; omega)⟩
  rw [readRegister_notice running, noticeWindow, empty]
  fin_cases k <;> rfl

/-- NOTICE1: the version and whether there is a record, then the three flags and the kind (Table 11-8). -/
theorem notice1_eq (n : Notice) : notice1 n =
    (n.body.record.elim 0 Prod.snd) ++ BitVec.ofBool n.body.record.isSome ++ BitVec.ofBool n.deadline.isSome ++
      BitVec.ofBool n.body.repeated ++ BitVec.ofBool n.expired ++ n.body.code := by
  rw [← noticeFlagsWord, notice1]
  rcases n.body.record with _ | ⟨ref, version⟩
  · have none : flagAt false 7 ||| fieldAt (0 : Byte) 8 = 0 := by decide
    exact congrArg _ none.symm
  · rfl

/-- NOTICE2: the record, the region and the memory of the key, each 0 where the kind carries none (Table 11-8). -/
theorem notice2_eq (n : Notice) : notice2 n =
    (n.body.record.elim 0 fun r => r.1.byte) ++ (n.body.region.elim 0 regionField) ++
      (n.body.key.elim 0 fun k => memField k.mem) := by
  rw [← noticeKeyWord, notice2]
  refine congrArg₂ (· ||| ·) (congrArg₂ (· ||| ·) ?_ ?_) ?_
  · rcases n.body.record with _ | ⟨ref, version⟩
    · rfl
    · exact ref.field_eq
  · cases n.body.region <;> rfl
  · cases n.body.key <;> rfl

/-- NOTICE4: the granule number's high bits, 0 where the kind carries no key (Table 11-8). -/
theorem notice4_eq (n : Notice) : notice4 n = n.body.key.elim 0 fun k => 0#3 ++ k.granule.extractLsb' 16 13 := by
  rw [notice4]
  cases n.body.key with
  | none => rfl
  | some k => exact highWord_granule k.granule

theorem notice2_empty {n : Notice} (record : n.body.record = none) (region : n.body.region = none)
    (key : n.body.key = none) : notice2 n = 0 := by
  rw [notice2, record, region, key]
  rfl

/-- The window shows the head notice (R133). -/
theorem readRegister_headNotice (running : s.held = false) {n : Notice} {rest : List Notice}
    (head : s.notices.entries = n :: rest) {v2 v3 : Word} (h2 : notice2 n = v2) (h3 : notice3 n = v3) :
    readRegister 0x13 s = n.seq ∧
    readRegister 0x14 s = (n.body.record.elim 0 Prod.snd) ++ BitVec.ofBool n.body.record.isSome ++
      BitVec.ofBool n.deadline.isSome ++ BitVec.ofBool n.body.repeated ++ BitVec.ofBool n.expired ++ n.body.code ∧
    readRegister 0x15 s = v2 ∧ readRegister 0x16 s = v3 ∧
    readRegister 0x17 s = (n.body.key.elim 0 fun k => 0#3 ++ k.granule.extractLsb' 16 13) ∧
    readRegister 0x18 s = n.stamp.extractLsb' 0 16 := by
  have shown (k : Fin 6) : readRegister (BitVec.ofNat 5 (k.val + 0x13)) s =
      #v[n.seq, notice1 n, notice2 n, notice3 n, notice4 n, lowWord n.stamp][k] := by
    rw [readRegister_notice running, noticeWindow, head]
  rw [← notice1_eq, ← h2, ← h3, ← notice4_eq]
  exact ⟨shown 0, shown 1, shown 2, shown 3, shown 4, shown 5⟩

end

/-- Settles O44: the acknowledgement by the head of the queue and the lost count, and the notice window for each kind of
head notice. -/
theorem ackNoticeRemovesHead : Obligations.AckNoticeRemovesHead := by
  unfold Obligations.AckNoticeRemovesHead
  refine ⟨fun s w => ?_, fun s running => ⟨fun empty a low high => readRegister_noNotice running empty low high, ?_⟩⟩
  · rw [exec_ackNotice w]
    refine ⟨fun empty => by rw [ackNotice_empty empty], fun n rest head =>
      ⟨fun other => by rw [ackNotice_mismatch head other], fun named => ?_⟩⟩
    rw [ackNotice_head head named]
    exact ⟨fun none => congrArg _ (congrArg _ (postLost_zero none)),
      fun counted => congrArg _ (congrArg _ (postLost_counted counted))⟩
  · rintro ⟨seq, body, stamp, deadline, expired⟩ rest head
    have shown {v2 v3 : Word} := readRegister_headNotice running head (v2 := v2) (v3 := v3)
    cases body with
    | severe => exact shown (notice2_eq _) rfl
    | hard => exact shown (notice2_eq _) rfl
    | verifyFailed => exact shown (notice2_eq _) rfl
    | burst => exact shown (notice2_eq _) rfl
    | tableFull => exact shown (notice2_eq _) rfl
    | sOverflow => exact shown (notice2_eq _) rfl
    | portHalted => exact shown (notice2_empty rfl rfl rfl) rfl
    | lost count => exact shown (notice2_empty rfl rfl rfl) (lowByteWord count)
    | resumed count => exact shown (notice2_empty rfl rfl rfl) (lowByteWord count)
    | retentionLost count => exact shown (notice2_empty rfl rfl rfl) (lowByteWord count)

/-! ## Deadlines -/

theorem reachedOpt_later {stamp : Stamp} {deadline : Option Stamp}
    (h : ∀ d, deadline = some d → 2 ^ 31 ≤ (stamp - d).toNat) : reachedOpt stamp deadline = false := by
  cases deadline with
  | none => rfl
  | some d => exact Bool.eq_false_iff.mpr fun due => Nat.not_lt.mpr (h d rfl) ((reached_iff _ _).mp due)

theorem reachedOpt_due {stamp d : Stamp} {deadline : Option Stamp} (armed : deadline = some d)
    (due : (stamp - d).toNat < 2 ^ 31) : reachedOpt stamp deadline = true := by
  rw [armed, reachedOpt_some, reached_iff]
  exact due

theorem takeCause_fault {s : State} (h : s.esc.mode = .fault) (kind : CauseKind) (seq : Option Word)
    (key : Option Key) : takeCause kind seq key s = s.setEsc { s.esc with
      mode := .resetPending, holdDeadline := none
      second := some { kind := kind, stamp := s.time.stamp, seq := seq, key := key } } := by
  rw [takeCause, h]

section
variable {s : State} {n : Notice} {before after : List Notice}

theorem exec_noticeDeadline (running : s.held = false) (seq : Word) :
    exec (.noticeDeadline seq) s = .next (reachNotice seq s) := congrArg _ (whenRunning_running _ running)

theorem exec_faultHoldExpiry (running : s.held = false) : exec .faultHoldExpiry s = .next (reachHold s) :=
  congrArg _ (whenRunning_running _ running)

theorem reachNotice_absent {seq : Word} (h : ∀ n ∈ s.notices.entries, n.seq ≠ seq) : reachNotice seq s = s := by
  have missing : s.notices.entries.find? (fun n => n.seq == seq) = none :=
    List.find?_eq_none.mpr fun n mem => by simpa using h n mem
  rw [reachNotice, missing]

/-- The search finds the one notice of its number (R137). -/
theorem reachNotice_queued (queue : s.notices.entries = before ++ n :: after)
    (unique : ∀ m ∈ before ++ after, m.seq ≠ n.seq) : reachNotice n.seq s =
      if reachedOpt s.time.stamp n.deadline then takeCause .deadline (some n.seq) n.body.key (expireNotice n.seq s)
      else s := by
  have found : s.notices.entries.find? (fun m => m.seq == n.seq) = some n := by
    rw [List.find?_eq_some_iff_append]
    exact ⟨beq_self_eq_true _, before, after, queue,
      fun m mem => by simpa using unique m (List.mem_append_left _ mem)⟩
  rw [reachNotice, found]

/-- An expired notice keeps its place (R137). -/
theorem expireNotice_queued (queue : s.notices.entries = before ++ n :: after)
    (unique : ∀ m ∈ before ++ after, m.seq ≠ n.seq) :
    expireNotice n.seq s = s.setNotices { s.notices with entries := before ++ n.expire :: after } := by
  have others (l : List Notice) (h : ∀ m ∈ l, m.seq ≠ n.seq) :
      (l.map fun m => if m.seq = n.seq then m.expire else m) = l :=
    (List.map_congr_left fun m mem => if_neg (h m mem)).trans (List.map_id l)
  rw [expireNotice, queue, List.map_append, List.map_cons, if_pos rfl,
    others before fun m mem => unique m (List.mem_append_left _ mem),
    others after fun m mem => unique m (List.mem_append_right _ mem)]

theorem reachHold_idle (h : s.esc.mode ≠ .fault ∨ reachedOpt s.time.stamp s.esc.holdDeadline = false) :
    reachHold s = s := by
  refine if_neg fun due => ?_
  obtain ⟨fault, reached⟩ := Bool.and_eq_true_iff.mp due
  rcases h with mode | later
  · exact mode (beq_iff_eq.mp fault)
  · exact nomatch later.symm.trans reached

theorem reachHold_due (fault : s.esc.mode = .fault) (due : reachedOpt s.time.stamp s.esc.holdDeadline = true) :
    reachHold s = takeCause .holdExpired none none s :=
  if_pos (Bool.and_eq_true_iff.mpr ⟨beq_iff_eq.mpr fault, due⟩)

end

/-- Settles O45: the deadline of the one notice of its number, and the fault hold deadline, each not reached and
reached. -/
theorem deadlinesRaiseCauses : Obligations.DeadlinesRaiseCauses := by
  unfold Obligations.DeadlinesRaiseCauses
  refine fun s running => ⟨fun before after n queue unique => ⟨fun later => ?_, fun d armed due => ?_⟩,
    fun seq absent => ?_, fun idle => ?_, fun d fault armed due => ?_⟩
  · rw [exec_noticeDeadline running, reachNotice_queued queue unique, reachedOpt_later later, if_neg nofun]
  · rw [exec_noticeDeadline running, reachNotice_queued queue unique, if_pos (reachedOpt_due armed due),
      expireNotice_queued queue unique]
    rfl
  · rw [exec_noticeDeadline running, reachNotice_absent absent]
  · rw [exec_faultHoldExpiry running, reachHold_idle (idle.imp_right reachedOpt_later)]
  · rw [exec_faultHoldExpiry running, reachHold_due fault (reachedOpt_due armed due), takeCause_fault fault]
    rfl

end Sys2Proof.Machine
end

section
/-! SUPPORT. The escalation unit: what a cause does in each of its states, the output lines, CLEAR_FAULT and
READ_REACTION, and the words of its view as fields side by side. -/

namespace Sys2Proof.Machine

/-! ## Causes -/

section
variable {s : State}

/-- The hold deadline as R145 gives it: the stamp with the hold time added, none where that time is 0. -/
theorem holdDeadlineAt_eq (stamp : Stamp) (hold : Word) :
    holdDeadlineAt stamp hold = if hold = 0 then none else some (stamp + hold.setWidth 32) := by
  rw [holdDeadlineAt, armed_eq]

theorem takeCause_clear (h : s.esc.mode = .clear) (kind : CauseKind) (seq : Option Word) (key : Option Key) :
    takeCause kind seq key s = s.setEsc
      { mode := .fault, first := some { kind := kind, stamp := s.time.stamp, seq := seq, key := key }, second := none
        beforeReset := false, holdDeadline := holdDeadlineAt s.time.stamp s.win.settings.faultHold } := by
  rw [takeCause, h]

theorem takeCause_resetPending (h : s.esc.mode = .resetPending) (kind : CauseKind) (seq : Option Word)
    (key : Option Key) : takeCause kind seq key s = s := by
  rw [takeCause, h]

/-! ## The output lines -/

theorem resetReqAsserted_iff : s.resetReqAsserted = true ↔ s.esc.mode = .resetPending := beq_iff_eq

theorem faultAsserted_iff : s.faultAsserted = true ↔ s.esc.mode = .fault ∨ s.esc.mode = .resetPending := by
  rw [State.faultAsserted, Bool.or_eq_true, beq_iff_eq, beq_iff_eq]

theorem noticesWaiting_iff : s.noticesWaiting = true ↔ s.notices.entries ≠ [] := by
  rw [State.noticesWaiting, Bool.not_eq_true', List.isEmpty_eq_false_iff]

theorem intAsserted_iff : s.intAsserted = true ↔
    s.win.noticeEnable = true ∧ s.notices.entries ≠ [] ∨ s.win.commandEnable = true ∧ s.win.unseen = true := by
  rw [State.intAsserted, Bool.or_eq_true, Bool.and_eq_true, Bool.and_eq_true, noticesWaiting_iff]

/-- Settles O43: a cause in each escalation state, and the three lines. -/
theorem causesMoveEscalationAndLines : Obligations.CausesMoveEscalationAndLines := by
  unfold Obligations.CausesMoveEscalationAndLines
  refine fun s kind seq key => ⟨fun clear => ?_, fun fault => takeCause_fault fault kind seq key,
    fun reset => takeCause_resetPending reset kind seq key, resetReqAsserted_iff, faultAsserted_iff, intAsserted_iff⟩
  rw [takeCause_clear clear, holdDeadlineAt_eq]
  rfl

/-! ## CLEAR_FAULT -/

theorem exec_clearFault (h : Waiting .clearFault .escalation s) : exec .clearFault s = .next (clearFault s) :=
  congrArg _ (takeByOwner_waiting h)

theorem expiredQueued_iff : s.expiredQueued = true ↔ ∃ n ∈ s.notices.entries, n.expired = true := List.any_eq_true

theorem clearFault_clear (h : s.esc.mode = .clear) : clearFault s = complete .already none s := by
  rw [clearFault, h]

theorem clearFault_resetPending (h : s.esc.mode = .resetPending) : clearFault s = complete .refusedState none s := by
  rw [clearFault, h]

theorem clearFault_fault (h : s.esc.mode = .fault) : clearFault s =
    if s.expiredQueued then complete .refusedState none s
    else complete .ok none (s.setEsc { s.esc with mode := .clear, holdDeadline := none }) := by
  rw [clearFault, h]

/-! ## READ_REACTION -/

theorem exec_readReaction (h : Waiting .readReaction .escalation s) :
    exec .readReaction s = .next (readReaction s) := congrArg _ (takeByOwner_waiting h)

theorem readReaction_first (h : s.param 0 = 0) :
    readReaction s = complete .ok (some (viewReaction s.esc s.esc.first)) s := if_pos h

theorem readReaction_second (h : s.param 0 = 1) :
    readReaction s = complete .ok (some (viewReaction s.esc s.esc.second)) s := by
  rw [readReaction, if_neg (by bv_omega), if_pos h]

theorem readReaction_badParam (h : 1 < (s.param 0).toNat) : readReaction s = complete .badParam none s := by
  rw [readReaction, if_neg (by bv_omega), if_neg (by bv_omega)]

end

/-! ## The view of READ_REACTION -/

section
variable (before first second seq key : Bool) (mode : BitVec 2) (kind : BitVec 3)

theorem reactionUnitWord : fieldAt mode 0 ||| flagAt before 2 ||| flagAt first 3 ||| flagAt second 4 =
    0#11 ++ (BitVec.ofBool second ++ BitVec.ofBool first ++ BitVec.ofBool before ++ mode) :=
  word_of_fields (by simp only [flagAt, fieldAt_append, fieldAt_zero, BitVec.or_zero, BitVec.or_assoc, Nat.zero_add])

/-- The five bits of the unit stand below the fields of the cause named (Table 11-7). -/
theorem reactionCauseWord (unit : BitVec 5) :
    (0#11 ++ unit) ||| fieldAt kind 8 ||| flagAt seq 11 ||| flagAt key 12 =
      0#3 ++ BitVec.ofBool key ++ BitVec.ofBool seq ++ kind ++ 0#3 ++ unit := by
  have low : fieldAt unit 0 = 0#11 ++ unit :=
    word_of_fields (by simp only [fieldAt_append, fieldAt_zero, BitVec.or_zero])
  rw [← low]
  exact word_of_fields (by
    simp only [flagAt, fieldAt_append, fieldAt_zero, BitVec.or_zero, BitVec.zero_or, BitVec.or_assoc, Nat.zero_add])

end

theorem memWord (mem : BitVec 4) : fieldAt mem 0 = 0#12 ++ mem :=
  word_of_fields (by simp only [fieldAt_append, fieldAt_zero, BitVec.or_zero])

theorem reactionV0_eq (e : Escalation) : reactionV0 e =
    0#11 ++ (BitVec.ofBool e.second.isSome ++ BitVec.ofBool e.first.isSome ++ BitVec.ofBool e.beforeReset ++
      (match e.mode with | .clear => 0#2 | .fault => 1#2 | .resetPending => 2#2)) := by
  rw [reactionV0, reactionUnitWord]
  cases e.mode <;> rfl

/-- Settles O46: CLEAR_FAULT by the escalation state and the notices queued, READ_REACTION by its part, and the words of
its view. -/
theorem clearFaultAndReadReaction : Obligations.ClearFaultAndReadReaction := by
  unfold Obligations.ClearFaultAndReadReaction
  refine ⟨fun s => ⟨fun w => ?_, fun w => ?_⟩, fun e => ⟨?_, fun c => ?_⟩⟩
  · rw [exec_clearFault w]
    refine ⟨fun clear => by rw [clearFault_clear clear], fun reset => by rw [clearFault_resetPending reset],
      fun fault expired => ?_, fun fault unexpired => ?_⟩
    · rw [clearFault_fault fault, if_pos (expiredQueued_iff.mpr expired)]
    · have none_expired : ¬ s.expiredQueued = true := fun queued => by
        obtain ⟨n, mem, expired⟩ := expiredQueued_iff.mp queued
        exact nomatch expired.symm.trans (unexpired n mem)
      rw [clearFault_fault fault, if_neg none_expired]
      rfl
  · rw [exec_readReaction w]
    exact ⟨fun first => by rw [readReaction_first first], fun second => by rw [readReaction_second second],
      fun other => by rw [readReaction_badParam other]⟩
  · exact viewOf_congr (reactionV0_eq e) rfl rfl rfl rfl rfl rfl rfl
  · rcases c with ⟨kind, stamp, seq, key⟩
    refine viewOf_congr ?_ rfl rfl rfl ?_ rfl ?_ rfl
    · rw [reactionV0_eq, reactionCauseWord]
      cases kind <;> rfl
    · cases key with
      | none => rfl
      | some k => exact memWord _
    · cases key with
      | none => rfl
      | some k => exact highWord_granule k.granule

end Sys2Proof.Machine
end

section
/-! SUPPORT. The laws of the command state and of the escalation unit together: what leaves them alone, and the causes,
notices and commands that act on the unit. -/

namespace Sys2Proof.Machine

/-! ## The laws, and what leaves them alone -/

/-- The laws of the two parts whose state the host reads and clears: the command state and the escalation unit. -/
def HostLawful (s : State) : Prop := WindowLawful s ∧ EscalationLawful s

section
variable {s t : State}

theorem WindowLawful.congr (h : WindowLawful s) (state : t.win.cmdState = s.win.cmdState)
    (command : t.win.command = s.win.command) (code : t.win.code = s.win.code) : WindowLawful t := by
  unfold WindowLawful at *
  rwa [state, command, code]

theorem EscalationLawful.congr (h : EscalationLawful s) (esc : t.esc = s.esc) : EscalationLawful t := by
  unfold EscalationLawful at *
  rwa [esc]

theorem HostLawful.congr (h : HostLawful s) (esc : t.esc = s.esc) (win : t.win = s.win) : HostLawful t :=
  ⟨h.1.congr (by rw [win]) (by rw [win]) (by rw [win]), h.2.congr esc⟩

/-- With no command pending only BUSY would break the law of the window. -/
theorem windowLawful_of_none (state : s.win.cmdState ≠ .busy) (none : s.win.command = none) : WindowLawful s :=
  ⟨⟨fun busy => absurd busy state, fun pending => absurd none pending⟩,
    fun _ _ pending => nomatch none.symm.trans pending⟩

/-- With a command pending the state is BUSY, and the code read back is that of the command (R165). -/
theorem windowLawful_of_some {c : Command} {o : Owner} (state : s.win.cmdState = .busy)
    (pending : s.win.command = some ⟨c, o⟩) (code : commandOf s.win.code = some c) : WindowLawful s := by
  refine ⟨⟨fun _ => ?_, fun _ => state⟩, fun c' o' other => ?_⟩
  · rw [pending]
    nofun
  · cases pending.symm.trans other
    exact code

/-- A completion leaves no command pending, whatever was pending before (R167). -/
theorem HostLawful.complete (h : HostLawful s) {r : Result} {v : Option (Vector Word 8)} (esc : t.esc = s.esc) :
    HostLawful (complete r v t) :=
  ⟨windowLawful_of_none nofun rfl, h.2.congr esc⟩

/-! ## Causes and notices -/

/-- A first cause enters FAULT, a second one RESET_PENDING, and no other is kept (R145, R146, R147). -/
theorem EscalationLawful.takeCause (h : EscalationLawful s) (kind : CauseKind) (seq : Option Word)
    (key : Option Key) : EscalationLawful (takeCause kind seq key s) := by
  cases mode : s.esc.mode with
  | clear =>
    rw [takeCause_clear mode]
    exact ⟨fun _ => rfl, fun second => absurd rfl second, fun _ => ⟨nofun, rfl⟩, nofun, nofun⟩
  | fault =>
    obtain ⟨-, -, fault, -, -⟩ := h
    obtain ⟨first, -⟩ := fault mode
    rw [takeCause_fault mode]
    exact ⟨fun hold => absurd rfl hold, fun _ => first, nofun, fun _ => nofun, nofun⟩
  | resetPending => rwa [takeCause_resetPending mode]

theorem takeCause_hostLawful (h : HostLawful s) (kind : CauseKind) (seq : Option Word) (key : Option Key) :
    HostLawful (takeCause kind seq key s) :=
  have win : (takeCause kind seq key s).win = s.win := takeCause_win kind seq key s
  ⟨h.1.congr (by rw [win]) (by rw [win]) (by rw [win]), h.2.takeCause kind seq key⟩

theorem post_hostLawful (h : HostLawful s) (body : NoticeBody) (dated : Bool) : HostLawful (post body dated s) := by
  unfold post
  split
  · exact h
  · split
    · exact takeCause_hostLawful (s := loseNotice s) h _ _ _
    · exact h

theorem postSevere_hostLawful (h : HostLawful s) (ref : RecRef) (core : RecordCore) (repeated : Bool) :
    HostLawful (postSevere ref core repeated s) := by
  unfold postSevere
  split
  · exact post_hostLawful h _ _
  · exact post_hostLawful h _ _
  · exact takeCause_hostLawful (post_hostLawful h _ _) _ _ _

theorem ackNotice_hostLawful (h : HostLawful s) : HostLawful (ackNotice s) := by
  unfold ackNotice
  split
  · exact h.complete rfl
  · split
    · unfold postLost
      split <;> exact h.complete rfl
    · exact h.complete rfl

theorem reachNotice_hostLawful (h : HostLawful s) (seq : Word) : HostLawful (reachNotice seq s) := by
  unfold reachNotice
  split
  · split
    · exact takeCause_hostLawful (s := expireNotice seq s) h _ _ _
    · exact h
  · exact h

theorem reachHold_hostLawful (h : HostLawful s) : HostLawful (reachHold s) := by
  unfold reachHold
  split
  · exact takeCause_hostLawful h _ _ _
  · exact h

/-- CLEAR_FAULT leaves CLEAR with the first cause alone, as FAULT had it (R150). -/
theorem EscalationLawful.cleared (h : EscalationLawful s) (mode : s.esc.mode = .fault) :
    EscalationLawful (s.setEsc { s.esc with mode := .clear, holdDeadline := none }) := by
  obtain ⟨-, causes, fault, -, -⟩ := h
  obtain ⟨-, alone⟩ := fault mode
  exact ⟨fun hold => absurd rfl hold, causes, nofun, nofun, fun _ second => absurd alone second⟩

theorem clearFault_hostLawful (h : HostLawful s) : HostLawful (clearFault s) := by
  unfold clearFault
  split
  · exact h.complete rfl
  · exact h.complete rfl
  next mode =>
    split
    · exact h.complete rfl
    · exact ⟨windowLawful_of_none nofun rfl, h.2.cleared mode⟩

theorem readReaction_hostLawful (h : HostLawful s) : HostLawful (readReaction s) := by
  unfold readReaction
  split
  · exact h.complete rfl
  · split <;> exact h.complete rfl

end

end Sys2Proof.Machine
end

section
/-! SUPPORT. The laws of the command state and of the escalation unit, kept by the record engine:
reports, answers, and the commands the engine owns. -/

namespace Sys2Proof.Machine

section
variable {s t : State}

/-! ## Reports -/

theorem burstCount_hostLawful (h : HostLawful s) (ix : RegionIx) : HostLawful (burstCount ix s) := by
  unfold burstCount
  dsimp only
  split
  · exact h
  · split
    · exact post_hostLawful (s := s.setCounts ix _) h _ _
    · exact h

theorem createC_hostLawful (h : HostLawful s) (slot : CSlot) (k : Key) (region : RegionIx) (rep : Report) :
    HostLawful (createC slot k region rep s) :=
  h.congr (thresholdCheck_esc _ _ _) (thresholdCheck_win _ _ _)

theorem updateC_hostLawful (h : HostLawful s) (slot : CSlot) (r : CRecord) (rep : Report) :
    HostLawful (updateC slot r rep s) :=
  h.congr (thresholdCheck_esc _ _ _) (thresholdCheck_win _ _ _)

theorem unrecordedC_hostLawful (h : HostLawful s) (k : Key) (region : RegionIx) :
    HostLawful (unrecordedC k region s) := by
  have disarmed (e : Engine) : HostLawful ((countUnrecorded region s).setEngine e) := h
  unfold unrecordedC
  dsimp only
  split
  · exact post_hostLawful (disarmed _) _ _
  · exact h

theorem recordC_hostLawful (h : HostLawful s) (k : Key) (region : RegionIx) (rep : Report) :
    HostLawful (recordC k region rep s) := by
  unfold recordC
  split
  · exact createC_hostLawful h _ _ _ _
  · split
    · exact createC_hostLawful (s := countEviction _ s) h _ _ _ _
    · exact unrecordedC_hostLawful h _ _

theorem applyCorrectable_hostLawful (h : HostLawful s) (k : Key) (region : RegionIx) (rep : Report) :
    HostLawful (applyCorrectable k region rep s) := by
  unfold applyCorrectable
  split
  · exact h
  · split
    · exact updateC_hostLawful h _ _ _
    · exact recordC_hostLawful h _ _ _

theorem updateS_hostLawful (h : HostLawful s) (slot : SSlot) (r : SRecord) (rep : Report) :
    HostLawful (updateS slot r rep s) := by
  unfold updateS
  dsimp only
  split
  · exact postSevere_hostLawful (s := s.putS slot _) h _ _ _
  · exact h

theorem promote_hostLawful (h : HostLawful s) (slot : CSlot) (r : CRecord) (free : SSlot) (rep : Report) :
    HostLawful (promote slot r free rep s) :=
  have freed (q : SRecord) : HostLawful (removeC slot r (s.putS free q)) :=
    h.congr (removeC_esc _ _ _) (removeC_win _ _ _)
  postSevere_hostLawful (freed _) _ _ _

theorem createS_hostLawful (h : HostLawful s) (slot : SSlot) (k : Key) (region : RegionIx) (rep : Report) :
    HostLawful (createS slot k region rep s) :=
  postSevere_hostLawful (s := s.putS slot _) h _ _ _

theorem overflowS_hostLawful (h : HostLawful s) (k : Key) (region : RegionIx) : HostLawful (overflowS k region s) :=
  takeCause_hostLawful (post_hostLawful (s := countUnrecorded region s) h _ _) _ _ _

theorem applySevere_hostLawful (h : HostLawful s) (k : Key) (region : RegionIx) (rep : Report) :
    HostLawful (applySevere k region rep s) := by
  unfold applySevere
  split
  · exact updateS_hostLawful h _ _ _
  · exact promote_hostLawful h _ _ _ _
  · exact createS_hostLawful h _ _ _ _
  · exact overflowS_hostLawful h _ _

theorem applyReport_hostLawful (h : HostLawful s) (k : Key) (region : RegionIx) (rep : Report) :
    HostLawful (applyReport k region rep s) := by
  have accepted : HostLawful (countAccepted region s) := h
  unfold applyReport
  split
  · exact applySevere_hostLawful accepted _ _ _
  · split
    · exact h
    · exact applyCorrectable_hostLawful (burstCount_hostLawful accepted _) _ _ _

theorem takeReport_hostLawful (h : HostLawful s) : HostLawful (takeReport s) := by
  unfold takeReport
  split
  · split
    next ix rep _ =>
      have popped : HostLawful (popReport ix s) := h
      unfold judgeReport
      split
      · exact applyReport_hostLawful popped _ _ _
      · exact popped
    · exact h
  · exact h

/-! ## Answers and VERIFY_RECORD -/

theorem applyAnswer_hostLawful (h : HostLawful s) (slot : CSlot) (j : Job) (r : CRecord) (a : Answer) :
    HostLawful (applyAnswer slot j r a s) := by
  have written (r' : CRecord) : HostLawful ((removeJob slot s).putC slot r') := h
  cases a with
  | clean =>
    show HostLawful (applyClean slot r s)
    unfold applyClean
    dsimp only
    split
    · exact post_hostLawful (written _) _ _
    · exact written _
  | persists => exact post_hostLawful (written _) _ _
  | failed =>
    show HostLawful (applyFailed slot j r s)
    unfold applyFailed
    split
    · exact h
    · exact post_hostLawful (written _) _ _

theorem execTakeAnsweredJob_hostLawful (h : HostLawful s) (e : execTakeAnsweredJob s = .next t) : HostLawful t := by
  unfold execTakeAnsweredJob at e
  split at e
  · cases e
    exact h
  · split at e
    · cases e
      exact h
    · split at e
      · cases e
        exact applyAnswer_hostLawful h _ _ _ _
      · cases e

theorem verifyC_hostLawful (h : HostLawful s) {slot : CSlot} {r : CRecord} (e : verifyC slot r s = .next t) :
    HostLawful t := by
  unfold verifyC at e
  split at e
  · unfold verifySuspect at e
    split at e
    · cases e
    · split at e <;> cases e <;> exact h.complete rfl
  all_goals split at e <;> cases e <;> exact h.complete rfl

theorem execVerifyRecord_hostLawful (h : HostLawful s) (e : execVerifyRecord s = .next t) : HostLawful t := by
  unfold execVerifyRecord verifyRecord at e
  split at e
  · split at e
    · split at e
      · exact verifyC_hostLawful h e
      · cases e
        exact h.complete rfl
    · cases e
      exact h.complete rfl
  · cases e
    exact h

/-! ## The engine's other commands -/

theorem enterConfig_hostLawful (h : HostLawful s) : HostLawful (enterConfig s) := by
  unfold enterConfig
  split <;> exact h.complete rfl

theorem leaveConfig_hostLawful (h : HostLawful s) : HostLawful (leaveConfig s) := by
  unfold leaveConfig
  split <;> exact h.complete rfl

theorem setMemory_hostLawful (h : HostLawful s) : HostLawful (setMemory s) := by
  unfold setMemory
  split
  · exact h.complete rfl
  · split
    · exact h.complete rfl
    · split <;> exact h.complete rfl

theorem readMemory_hostLawful (h : HostLawful s) : HostLawful (readMemory s) := by
  unfold readMemory
  split <;> exact h.complete rfl

theorem setRange_hostLawful (h : HostLawful s) (ix : RegionIx) : HostLawful (setRange ix s) := by
  unfold setRange
  split
  · exact h.complete rfl
  · split <;> exact h.complete rfl

theorem setPolicy_hostLawful (h : HostLawful s) (ix : RegionIx) : HostLawful (setPolicy ix s) := by
  unfold setPolicy
  split <;> exact h.complete rfl

theorem setRegion_hostLawful (h : HostLawful s) : HostLawful (setRegion s) := by
  unfold setRegion
  split
  · exact h.complete rfl
  · split
    · exact setRange_hostLawful h _
    · exact setPolicy_hostLawful h _
    · exact h.complete rfl

theorem readRegion_hostLawful (h : HostLawful s) : HostLawful (readRegion s) := by
  unfold readRegion
  split
  · split <;> exact h.complete rfl
  all_goals exact h.complete rfl

theorem unmuteRegion_hostLawful (h : HostLawful s) : HostLawful (unmuteRegion s) := by
  unfold unmuteRegion
  split
  · exact h.complete rfl
  · dsimp only
    split <;> exact h.complete rfl

theorem fetchRecord_hostLawful (h : HostLawful s) : HostLawful (fetchRecord s) := by
  unfold fetchRecord
  dsimp only
  split
  · exact h.complete rfl
  all_goals split <;> exact h.complete rfl

theorem findRecord_hostLawful (h : HostLawful s) : HostLawful (findRecord s) := by
  unfold findRecord
  dsimp only
  split
  · exact h.complete rfl
  · split
    · unfold findAddress
      dsimp only
      split <;> exact h.complete rfl
    · exact h.complete rfl

theorem onVersionC_hostLawful (h : HostLawful s) {slot : CSlot} {v : Byte} {own : CRecord → State → State}
    (owned : ∀ r, HostLawful (own r s)) : HostLawful (onVersionC slot v own s) := by
  unfold onVersionC
  split
  · exact h.complete rfl
  · split
    · exact owned _
    · exact h.complete rfl

theorem onVersionS_hostLawful (h : HostLawful s) {slot : SSlot} {v : Byte} {own : SRecord → State → State}
    (owned : ∀ r, HostLawful (own r s)) : HostLawful (onVersionS slot v own s) := by
  unfold onVersionS
  split
  · exact h.complete rfl
  · split
    · exact owned _
    · exact h.complete rfl

theorem retireRecord_hostLawful (h : HostLawful s) : HostLawful (retireRecord s) := by
  unfold retireRecord
  split
  · exact onVersionC_hostLawful h fun r => h.complete (removeC_esc _ r s)
  · exact onVersionS_hostLawful h fun _ => h.complete rfl
  · exact h.complete rfl

theorem pinRecord_hostLawful (h : HostLawful s) : HostLawful (pinRecord s) := by
  unfold pinRecord
  split
  · refine onVersionC_hostLawful h fun r => ?_
    unfold pinOwn
    split
    · exact h.complete rfl
    · split <;> exact h.complete rfl
  · exact h.complete rfl

theorem unpinRecord_hostLawful (h : HostLawful s) : HostLawful (unpinRecord s) := by
  unfold unpinRecord
  split
  · refine onVersionC_hostLawful h fun r => ?_
    unfold unpinOwn
    split <;> exact h.complete rfl
  · exact h.complete rfl

theorem settleRecord_hostLawful (h : HostLawful s) : HostLawful (settleRecord s) := by
  unfold settleRecord
  split
  · refine onVersionS_hostLawful h fun r => ?_
    unfold settleOwn
    split <;> exact h.complete rfl
  · exact h.complete rfl

theorem withdrawAll_esc (s : State) : (withdrawAll s).esc = s.esc :=
  List.foldlRecOn (motive := fun t : State => t.esc = s.esc) _ _ rfl
    fun t same slot _ => (withdraw_esc slot t).trans same

theorem clearTables_hostLawful (h : HostLawful s) : HostLawful (clearTables s) := by
  unfold clearTables
  split
  · exact h.complete rfl
  · exact h.complete (withdrawAll_esc s)

end

end Sys2Proof.Machine
end

section
/-! SUPPORT. The laws of the command state and of the escalation unit, kept by the ports, the verify scheduler, the host
window and the reset inputs, and so by every command. -/

namespace Sys2Proof.Machine

section
variable {s t : State}

/-! ## Ports -/

theorem endRequest_hostLawful (h : HostLawful s) (ix : PortIx) : HostLawful (endRequest ix s) :=
  h.congr (endRequest_esc ix s) (endRequest_win ix s)

theorem discardFrame_hostLawful (h : HostLawful s) (ix : PortIx) : HostLawful (discardFrame ix s) := by
  unfold discardFrame
  dsimp only
  split
  · have halted (p q : Port) : HostLawful (endRequest ix ((s.setPort ix p).setPort ix q)) :=
      endRequest_hostLawful (s := (s.setPort ix p).setPort ix q) h ix
    exact post_hostLawful (halted _ _) _ _
  · exact h

theorem takeHello_hostLawful (h : HostLawful s) (ix : PortIx) (next : Byte) (reporter : Word) :
    HostLawful (takeHello ix next reporter s) := by
  have opened : HostLawful (openLink ix next reporter s) := endRequest_hostLawful (s := s.setPort ix _) h ix
  unfold takeHello
  split
  · exact h
  · exact opened
  · exact opened
  · exact h

theorem takeReportFrame_hostLawful (h : HostLawful s) (ix : PortIx) (f : ReportFrame) :
    HostLawful (takeReportFrame ix f s) := by
  unfold takeReportFrame
  split
  · exact h
  · exact h
  · unfold judgeFrame
    dsimp only
    split
    · exact h
    · split
      · exact h
      · unfold admitReport
        split
        · exact h
        · split
          · exact h
          · split <;> exact h
  · exact h

theorem takeVerdict_hostLawful (h : HostLawful s) (ix : PortIx) (tag result : Byte) :
    HostLawful (takeVerdict ix tag result s) := by
  unfold takeVerdict
  split
  · unfold matchVerdict
    split
    · split
      · unfold verdictNotification
        split <;> exact h
      · exact h
    · exact h
  all_goals exact h

theorem completeGood_hostLawful (h : HostLawful s) (ix : PortIx) (f : InFrame) : HostLawful (completeGood ix f s) := by
  have ended : HostLawful (endReception ix s) := h
  unfold completeGood
  split
  · cases f with
    | hello next reporter => exact takeHello_hostLawful ended _ _ _
    | report frame => exact takeReportFrame_hostLawful ended _ _
    | verdict tag result => exact takeVerdict_hostLawful ended _ _ _
  · exact h

theorem completeBytes_hostLawful (h : HostLawful s) (ix : PortIx) (bytes : List Byte) :
    HostLawful (completeBytes ix bytes s) := by
  unfold completeBytes
  split
  · exact completeGood_hostLawful h _ _
  · split
    · exact discardFrame_hostLawful h _
    · exact h
  · exact h

theorem lowPeriodOf_hostLawful (h : HostLawful s) (ix : PortIx) (high low : Clocks) :
    HostLawful (lowPeriodOf ix high low s) := by
  unfold lowPeriodOf
  split
  · exact h.congr (openFrame_esc _ _ _ _) (openFrame_win _ _ _ _)
  · split
    · exact (discardFrame_hostLawful h ix).congr (afterTruncation_esc _ _ _ _) (afterTruncation_win _ _ _ _)
    · exact h

theorem lowPeriod_hostLawful (h : HostLawful s) (ix : PortIx) (high low : Clocks) :
    HostLawful (lowPeriod ix high low s) := by
  unfold lowPeriod
  split
  · exact h
  all_goals exact lowPeriodOf_hostLawful h _ _ _

theorem timeoutFrame_hostLawful (h : HostLawful s) (ix : PortIx) : HostLawful (timeoutFrame ix s) := by
  unfold timeoutFrame
  split
  · exact discardFrame_hostLawful h _
  · exact h

theorem setPortMode_esc (ix : PortIx) (enable : Bool) (s : State) : (setPortMode ix enable s).esc = s.esc := by
  unfold setPortMode
  split <;> simp

theorem setPort_hostLawful (h : HostLawful s) (ix : PortIx) : HostLawful (setPort ix s) :=
  have named (p : Port) (enable : Bool) : (setPortMode ix enable (s.setPort ix p)).esc = s.esc := setPortMode_esc _ _ _
  h.complete (named _ _)

theorem restartPort_hostLawful (h : HostLawful s) (ix : PortIx) : HostLawful (restartPort ix s) := by
  unfold restartPort
  split <;> exact h.complete rfl

/-! ## The verify scheduler -/

theorem dispatchTo_hostLawful (h : HostLawful s) (ix : PortIx) : HostLawful (dispatchTo ix s) := by
  unfold dispatchTo
  split <;> exact h

theorem cancelJob_hostLawful (h : HostLawful s) (j : Job) (reason : CancelReason) :
    HostLawful (cancelJob j reason s) := by
  unfold cancelJob
  split <;> exact h

theorem preemptOn_hostLawful (h : HostLawful s) (ix : PortIx) : HostLawful (preemptOn ix s) := by
  unfold preemptOn
  split
  · exact cancelJob_hostLawful h _ _
  · exact h

theorem timeoutJob_hostLawful (h : HostLawful s) (slot : CSlot) : HostLawful (timeoutJob slot s) := by
  unfold timeoutJob
  split
  · split
    · exact cancelJob_hostLawful h _ _
    · exact h
  · exact h

theorem takeDispatch_hostLawful (h : HostLawful s) (ix : PortIx) : HostLawful (takeDispatch ix s) := by
  unfold takeDispatch
  split
  · unfold takeDispatchOf
    dsimp only
    split
    · unfold flyJob
      split <;> exact h
    · unfold refuseOffer
      split <;> exact h
  · exact h

theorem cancelOutcome_hostLawful (h : HostLawful s) (ix : PortIx) (tag : Tag) :
    HostLawful (cancelOutcome ix tag s) := by
  unfold cancelOutcome
  split
  · exact h
  · split <;> exact h

theorem takeCancel_hostLawful (h : HostLawful s) (ix : PortIx) : HostLawful (takeCancel ix s) := by
  unfold takeCancel
  split
  · unfold takeCancelOf
    dsimp only
    split
    · exact cancelOutcome_hostLawful (s := (popHandover ix s).setPort ix _) h _ _
    · exact h
  · exact h

theorem decay_hostLawful (h : HostLawful s) (ix : RegionIx) : HostLawful (decay ix s) := by
  unfold decay
  dsimp only
  split <;> exact h

/-! ## The host window -/

theorem setTiming_hostLawful (h : HostLawful s) : HostLawful (setTiming s) := by
  unfold setTiming
  split
  · exact h.complete rfl
  · split <;> exact h.complete rfl

/-- A command that the code read back names becomes pending, or is carried out within the access (R165, R167). -/
theorem acceptCommand_hostLawful (h : HostLawful s) {c : Command} (code : commandOf s.win.code = some c) :
    HostLawful (acceptCommand c s) := by
  have pending (o : Owner) : HostLawful (makePending c o s) := ⟨windowLawful_of_some rfl rfl code, h.2⟩
  unfold acceptCommand
  split
  · split
    · exact pending _
    · exact h.complete rfl
  · split
    · exact setTiming_hostLawful h
    · exact h.complete rfl
    · exact pending _

/-- A code is accepted only where no command is pending (R165, R166). -/
theorem acceptCode_hostLawful (h : HostLawful s) (idle : s.win.cmdState ≠ .busy) (code : Word) :
    HostLawful (acceptCode code s) := by
  obtain ⟨⟨busy, -⟩, escalation⟩ := h
  exact ⟨windowLawful_of_none idle (not_not.mp (mt busy.mpr idle)), escalation⟩

theorem writeCommand_hostLawful (h : HostLawful s) (code : Word) : HostLawful (writeCommand code s) := by
  unfold writeCommand
  split
  · exact h
  all_goals
    next state =>
      have accepted : HostLawful (acceptCode code s) := acceptCode_hostLawful h (by rw [state]; nofun) code
      split
      next named => exact acceptCommand_hostLawful accepted named
      next => exact accepted.complete rfl

theorem writeRegister_hostLawful (h : HostLawful s) (a : BitVec 5) (word : Word) :
    HostLawful (writeRegister a word s) := by
  unfold writeRegister
  split
  · exact h
  · split
    · exact writeCommand_hostLawful h _
    · split <;> exact h

/-! ## The reset inputs -/

/-- A warm reset leaves CLEAR with the causes kept, marked as from before it (R154). -/
theorem startWarmReset_hostLawful (h : HostLawful s) : HostLawful (startWarmReset s) := by
  obtain ⟨-, -, causes, -⟩ := h
  exact ⟨windowLawful_of_none nofun rfl, fun hold => absurd rfl hold, causes, nofun, nofun, fun _ _ => rfl⟩

theorem assertWrst_hostLawful (h : HostLawful s) : HostLawful (assertWrst s) := by
  unfold assertWrst
  split
  · exact h
  · split
    · exact h
    · exact startWarmReset_hostLawful h

theorem postOutcome_hostLawful (h : HostLawful s) (failing : Nat) : HostLawful (postOutcome failing s) := by
  unfold postOutcome
  dsimp only
  split
  · exact post_hostLawful h _ _
  · exact post_hostLawful (post_hostLawful h _ _) _ _

theorem endSteps_hostLawful (h : HostLawful s) : HostLawful (endSteps s) := by
  refine postOutcome_hostLawful ?_ _
  unfold checkRetained
  exact ⟨h.1.congr rfl rfl rfl, h.2.congr rfl⟩

theorem disturbRetained_hostLawful (h : HostLawful s) (d : Disturbance) : HostLawful (disturbRetained d s) := by
  unfold disturbRetained
  exact ⟨h.1.congr rfl rfl rfl, h.2.congr rfl⟩

theorem releaseWrst_hostLawful (h : HostLawful s) (d : Disturbance) : HostLawful (releaseWrst d s) := by
  unfold releaseWrst
  dsimp only
  split
  · exact endSteps_hostLawful (disturbRetained_hostLawful (s := s.setResets _) h d)
  · exact h

/-! ## Every command -/

theorem whenRunning_hostLawful (h : HostLawful s) {f : State → State} (run : HostLawful (f s)) :
    HostLawful (whenRunning f s) := by
  rcases whenRunning_eq f s with e | e <;> rwa [e]

theorem takeByOwner_hostLawful (h : HostLawful s) {c : Command} {o : Owner} {body : State → State}
    (run : HostLawful (body s)) : HostLawful (takeByOwner c o body s) := by
  rcases takeByOwner_eq c o body s with e | e <;> rwa [e]

theorem takeByPort_hostLawful (h : HostLawful s) {c : Command} {body : PortIx → State → State}
    (run : ∀ ix, HostLawful (body ix s)) : HostLawful (takeByPort c body s) := by
  rcases takeByPort_eq c body s with e | ⟨ix, e⟩
  · rwa [e]
  · rw [e]
    exact run ix

/-- Every command keeps the laws of the command state and of the escalation unit (R145 to R150, R154, R165 to R167). -/
theorem exec_hostLawful (h : HostLawful s) {i : Instr} (e : exec i s = .next t) : HostLawful t := by
  cases i
  case takeAnsweredJob => exact execTakeAnsweredJob_hostLawful h e
  case verifyRecord => exact execVerifyRecord_hostLawful h e
  all_goals cases e
  case takeReport => exact whenRunning_hostLawful h (takeReport_hostLawful h)
  case enterConfig => exact takeByOwner_hostLawful h (enterConfig_hostLawful h)
  case leaveConfig => exact takeByOwner_hostLawful h (leaveConfig_hostLawful h)
  case setMemory => exact takeByOwner_hostLawful h (setMemory_hostLawful h)
  case readMemory => exact takeByOwner_hostLawful h (readMemory_hostLawful h)
  case setRegion => exact takeByOwner_hostLawful h (setRegion_hostLawful h)
  case readRegion => exact takeByOwner_hostLawful h (readRegion_hostLawful h)
  case unmuteRegion => exact takeByOwner_hostLawful h (unmuteRegion_hostLawful h)
  case fetchRecord => exact takeByOwner_hostLawful h (fetchRecord_hostLawful h)
  case findRecord => exact takeByOwner_hostLawful h (findRecord_hostLawful h)
  case retireRecord => exact takeByOwner_hostLawful h (retireRecord_hostLawful h)
  case pinRecord => exact takeByOwner_hostLawful h (pinRecord_hostLawful h)
  case unpinRecord => exact takeByOwner_hostLawful h (unpinRecord_hostLawful h)
  case settleRecord => exact takeByOwner_hostLawful h (settleRecord_hostLawful h)
  case clearTables => exact takeByOwner_hostLawful h (clearTables_hostLawful h)
  case setPort => exact takeByPort_hostLawful h (setPort_hostLawful h)
  case restartPort => exact takeByPort_hostLawful h (restartPort_hostLawful h)
  case flushPort => exact takeByPort_hostLawful h fun _ => h.complete rfl
  case readPort => exact takeByPort_hostLawful h fun _ => h.complete rfl
  case ackNotice => exact takeByOwner_hostLawful h (ackNotice_hostLawful h)
  case clearFault => exact takeByOwner_hostLawful h (clearFault_hostLawful h)
  case readReaction => exact takeByOwner_hostLawful h (readReaction_hostLawful h)
  case setTiming | readTiming | unknownCommand | commandOverrun | commandAccepted =>
    exact whenRunning_hostLawful h (writeCommand_hostLawful h _)
  case setInterruptEnables | markSeen => exact whenRunning_hostLawful h h
  case stampLoRead => split <;> exact h
  case registerWrite => exact whenRunning_hostLawful h (writeRegister_hostLawful h _ _)
  case startDelimiter | longLowPeriod => exact whenRunning_hostLawful h (lowPeriod_hostLawful h _ _ _)
  case hello | report | verdict => exact whenRunning_hostLawful h (completeGood_hostLawful h _ _)
  case badFrame => exact whenRunning_hostLawful h (completeBytes_hostLawful h _ _)
  case frameTimeout => exact whenRunning_hostLawful h (timeoutFrame_hostLawful h _)
  case outboundFrameSent => exact whenRunning_hostLawful h h
  case dispatch => exact whenRunning_hostLawful h (dispatchTo_hostLawful h _)
  case takeDispatch => exact whenRunning_hostLawful h (takeDispatch_hostLawful h _)
  case preempt => exact whenRunning_hostLawful h (preemptOn_hostLawful h _)
  case verifyTimeout => exact whenRunning_hostLawful h (timeoutJob_hostLawful h _)
  case cancelRequest => exact whenRunning_hostLawful h (takeCancel_hostLawful h _)
  case noticeDeadline => exact whenRunning_hostLawful h (reachNotice_hostLawful h _)
  case faultHoldExpiry => exact whenRunning_hostLawful h (reachHold_hostLawful h)
  case decayDeadline => exact whenRunning_hostLawful h (decay_hostLawful h _)
  case tick => exact h.congr (tickOnce_esc s) (tickOnce_win s)
  case porstAssert => exact ⟨windowLawful_reset, escalationLawful_reset⟩
  case porstRelease => exact h
  case wrstAssert => exact assertWrst_hostLawful h
  case endOfWarmReset => exact releaseWrst_hostLawful h _

end

end Sys2Proof.Machine
end

section
/-! SUPPORT. The reset values of a held part, kept by every command; and every step. -/

namespace Sys2Proof.Machine

section
variable {s t : State}

/-! ## A held part -/

/-- A part that is not held has nothing to stand at its reset values; only the inputs matter (R155). -/
theorem heldAtReset_of_running (running : t.held = false)
    (warm : t.resets.warm = true → t.resets.wrst = true ∧ t.resets.porst = false) : HeldAtReset t :=
  ⟨fun held => absurd held (by rw [running]; nofun), warm⟩

theorem held_congr (h : t.resets = s.resets) : t.held = s.held := by
  rw [State.held, State.held, h]

/-- What leaves the inputs keeps the reset values of a held part where it leaves the parts that stand at them (R155). -/
theorem HeldAtReset.congr (h : HeldAtReset s) (resets : t.resets = s.resets) (ports : t.ports = s.ports)
    (sched : t.sched = s.sched) (notices : t.notices = s.notices) (win : t.win = s.win) (esc : t.esc = s.esc)
    (engine : t.engine = s.engine) : HeldAtReset t := by
  unfold HeldAtReset at *
  rwa [held_congr resets, resets, ports, sched, notices, win, esc, engine]

theorem assertPorst_heldAtReset (s : State) : HeldAtReset (assertPorst s) :=
  ⟨fun _ => ⟨rfl, rfl, rfl, rfl, rfl, rfl⟩, nofun⟩

theorem releasePorst_heldAtReset (h : HeldAtReset s) : HeldAtReset (releasePorst s) := by
  obtain ⟨values, warm⟩ := h
  refine ⟨fun held => values ?_, fun run => ⟨?_, rfl⟩⟩
  · rw [held_iff] at held ⊢
    exact .inr (held.resolve_left nofun)
  · obtain ⟨wrst, -⟩ := warm run
    exact wrst

theorem assertWrst_heldAtReset (h : HeldAtReset s) : HeldAtReset (assertWrst s) := by
  unfold assertWrst
  split
  · exact h
  · split
    next porst =>
      obtain ⟨values, warm⟩ := h
      refine ⟨fun _ => values ((held_iff s).mpr (.inl porst)), fun run => ?_⟩
      obtain ⟨-, released⟩ := warm run
      exact nomatch porst.symm.trans released
    next => exact ⟨fun _ => ⟨rfl, rfl, rfl, rfl, rfl, rfl⟩, fun _ => ⟨rfl, rfl⟩⟩

theorem releaseWrst_resets (d : Disturbance) (s : State) :
    (releaseWrst d s).resets = { s.resets with wrst := false, warm := false } := by
  unfold releaseWrst
  dsimp only
  split
  · obtain ⟨-, -, -, resets⟩ := steady_iff.mp ((endSteps_steady _).trans (disturbRetained_steady d _))
    exact resets
  · rfl

/-- The release of WRST leaves a part that PORST holds as it stands, and any other part running (R155, R157). -/
theorem releaseWrst_heldAtReset (h : HeldAtReset s) (d : Disturbance) : HeldAtReset (releaseWrst d s) := by
  cases porst : s.resets.porst with
  | true =>
    obtain ⟨values, -⟩ := h
    rw [releaseWrst_idle d (.inr (.inr porst))]
    exact ⟨fun _ => values ((held_iff s).mpr (.inl porst)), nofun⟩
  | false =>
    have resets := releaseWrst_resets d s
    refine heldAtReset_of_running ?_ (by rw [resets]; nofun)
    rw [State.held, resets, porst]
    rfl

/-- At a held part the read of STAMP_LO captures nothing, and the word it returns stands there already (R155). -/
theorem exec_stampLoRead_heldAtReset (h : HeldAtReset s) (held : s.held = true) (e : exec .stampLoRead s = .next t) :
    HeldAtReset t := by
  have read : exec .stampLoRead s = .next (s.setWin { s.win with readData := 0 }) := congrArg _ (if_pos held)
  have ⟨_, _, _, window, _, _⟩ := h.1 held
  have same : { s.win with readData := 0 } = s.win := by
    rw [window]
    rfl
  cases read.symm.trans e
  exact h.congr rfl rfl rfl rfl same rfl rfl

/-- Nothing but ticks, the read of STAMP_LO and the reset inputs acts on a held part (R102, R125, R141, R155). -/
theorem exec_heldAtReset_of_held (h : HeldAtReset s) (held : s.held = true) {i : Instr} (row : isResetRow i = false)
    (e : exec i s = .next t) : HeldAtReset t := by
  by_cases tick : i = .tick
  · cases tick
    cases e
    exact h.congr (tickOnce_resets s) (tickOnce_ports s) (tickOnce_sched s) (tickOnce_notices s) (tickOnce_win s)
      (tickOnce_esc s) (tickOnce_engine s)
  · by_cases read : i = .stampLoRead
    · cases read
      exact exec_stampLoRead_heldAtReset h held e
    · cases (exec_held held tick read row).symm.trans e
      exact h

/-- Only the rows of the reset inputs change the inputs (R54, R155). -/
theorem exec_resets {i : Instr} (row : isResetRow i = false) (e : exec i s = .next t) : t.resets = s.resets := by
  obtain ⟨-, -, -, resets⟩ := exec_keeps e
  exact resets (by rintro rfl; cases row) (by rintro rfl; cases row) (by rintro rfl; cases row)
    (by rintro d rfl; cases row)

/-- A command of a running part leaves it running, but for the rows of the reset inputs. -/
theorem exec_heldAtReset_of_running (h : HeldAtReset s) (running : s.held = false) {i : Instr}
    (row : isResetRow i = false) (e : exec i s = .next t) : HeldAtReset t := by
  have resets := exec_resets row e
  refine heldAtReset_of_running ((held_congr resets).trans running) ?_
  rw [resets]
  exact h.2

theorem exec_heldAtReset (h : HeldAtReset s) {i : Instr} (e : exec i s = .next t) : HeldAtReset t := by
  cases row : isResetRow i with
  | true =>
    cases i
    case porstAssert => cases e; exact assertPorst_heldAtReset s
    case porstRelease => cases e; exact releasePorst_heldAtReset h
    case wrstAssert => cases e; exact assertWrst_heldAtReset h
    case endOfWarmReset d => cases e; exact releaseWrst_heldAtReset h d
    all_goals cases row
  | false =>
    cases held : s.held with
    | true => exact exec_heldAtReset_of_held h held row e
    | false => exact exec_heldAtReset_of_running h held row e

/-! ## Every step -/

theorem step_hostLawful (h : HostLawful s) (e : step s = .next t) : HostLawful t := by
  unfold step at e
  split at e
  · cases e
    exact h.congr (clockPeriod_esc s) (clockPeriod_win s)
  next c rest _ =>
    have queued : HostLawful (s.withPending rest) := h
    exact exec_hostLawful queued e

theorem step_heldAtReset (h : HeldAtReset s) (e : step s = .next t) : HeldAtReset t := by
  unfold step at e
  split at e
  · cases e
    exact h.congr (clockPeriod_resets s) (clockPeriod_ports s) (clockPeriod_sched s) (clockPeriod_notices s)
      (clockPeriod_win s) (clockPeriod_esc s) (clockPeriod_engine s)
  next c rest _ =>
    have queued : HeldAtReset (s.withPending rest) := h
    exact exec_heldAtReset queued e

end

/-- Settles O59: the laws of the host's side operation by operation, and the held part by its inputs. -/
theorem windowEscalationAndResetLawsKept : Obligations.WindowEscalationAndResetLawsKept := by
  unfold Obligations.WindowEscalationAndResetLawsKept
  intro s t window escalation held e
  obtain ⟨window', escalation'⟩ := step_hostLawful ⟨window, escalation⟩ e
  exact ⟨window', escalation', step_heldAtReset held e⟩

end Sys2Proof.Machine
end

section
/-! SUPPORT. The end of a warm reset: which entries pass the checks after the disturbance, what the checks leave of each
entry, the numbers kept and failed, and the notices that post them. -/

namespace Sys2Proof.Machine

/-! ## Which entries pass -/

/-- A memory entry's code agrees after the disturbance (R158). -/
def memoryPasses (d : Disturbance) (e : Engine) (m : MemId) : Bool :=
  e.memories[m].codeAgrees && !d.memories.getLsbD m.val

/-- A record, hit by the disturbance or not, agrees with its code and its memory's entry passes (R158, R159). -/
def recordPasses (d : Disturbance) (e : Engine) (hit : Bool) (c : RecordCore) : Bool :=
  memoryPasses d e c.key.mem && c.codeAgrees && !hit

/-- The record of a C slot is kept (R158, R159). -/
def cPasses (d : Disturbance) (e : Engine) (i : CSlot) (r : CRecord) : Bool :=
  recordPasses d e (d.cRecords.getLsbD i.val) r.core

/-- The record of an S slot is kept (R158, R159). -/
def sPasses (d : Disturbance) (e : Engine) (i : SSlot) (r : SRecord) : Bool :=
  recordPasses d e (d.sRecords.getLsbD i.val) r.core

/-- A region entry's code agrees after the disturbance (R160). -/
def regionPasses (d : Disturbance) (e : Engine) (ix : RegionIx) : Bool :=
  e.regions[ix].codeAgrees && !d.regions.getLsbD ix.val

/-- The code of the settings agrees after the disturbance (R160). -/
def settingsPass (d : Disturbance) (t : Settings) : Bool := t.codeAgrees && !d.settings

theorem disturbed_memory_code (d : Disturbance) (e : Engine) (m : MemId) :
    (e.disturbed d).memories[m].codeAgrees = memoryPasses d e m :=
  congrArg MemoryEntry.codeAgrees (disturbed_memories d e m)

theorem disturbed_region_code (d : Disturbance) (e : Engine) (ix : RegionIx) :
    (e.disturbed d).regions[ix].codeAgrees = regionPasses d e ix :=
  congrArg Region.codeAgrees (disturbed_regions d e ix)

theorem recordKept_disturbed (d : Disturbance) (e : Engine) (hit : Bool) (c : RecordCore) :
    recordKept (e.disturbed d) (c.disturbed hit) = recordPasses d e hit c := by
  have memory : (e.disturbed d).memories[c.key.mem].codeAgrees = memoryPasses d e c.key.mem :=
    disturbed_memory_code d e c.key.mem
  have parts : recordKept (e.disturbed d) (c.disturbed hit) =
      ((e.disturbed d).memories[c.key.mem].codeAgrees && (c.codeAgrees && !hit)) := rfl
  rw [parts, memory, ← Bool.and_assoc]
  rfl

/-- A record that passes was not hit: the disturbance left it as it was. -/
theorem disturbed_of_passes {d : Disturbance} {e : Engine} {hit : Bool} {c : RecordCore}
    (pass : recordPasses d e hit c = true) : c.disturbed hit = c := by
  cases hit with
  | true => simp [recordPasses] at pass
  | false => simp [RecordCore.disturbed]

theorem coded_of_passes {d : Disturbance} {e : Engine} {hit : Bool} {c : RecordCore}
    (pass : recordPasses d e hit c = true) : c.codeAgrees = true := by
  obtain ⟨codes, -⟩ := Bool.and_eq_true_iff.mp pass
  exact (Bool.and_eq_true_iff.mp codes).2

/-! ## What the checks leave of memories, regions, settings and flags -/

theorem rechecked_memory_eq (d : Disturbance) (e : Engine) (m : MemId) :
    (e.rechecked d).memories[m] = if memoryPasses d e m then e.memories[m] else .powerOn := by
  rw [rechecked_memories, disturbed_memory_code]
  split
  next pass =>
    rw [disturbed_memories]
    obtain ⟨code, -⟩ := Bool.and_eq_true_iff.mp pass
    show { e.memories[m] with codeAgrees := memoryPasses d e m } = e.memories[m]
    rw [pass, ← code]
  next => rfl

theorem rechecked_region_eq (d : Disturbance) (e : Engine) (ix : RegionIx) :
    (e.rechecked d).regions[ix] = if regionPasses d e ix then e.regions[ix] else .powerOn := by
  rw [rechecked_regions, disturbed_region_code]
  split
  next pass =>
    rw [disturbed_regions]
    obtain ⟨code, -⟩ := Bool.and_eq_true_iff.mp pass
    show { e.regions[ix] with codeAgrees := regionPasses d e ix } = e.regions[ix]
    rw [pass, ← code]
  next => rfl

theorem rechecked_range_eq (d : Disturbance) (e : Engine) (i : Fin 12) :
    (e.rechecked d).ranges[i] = if regionPasses d e i.castSucc then e.ranges[i] else .powerOn := by
  rw [rechecked_ranges, disturbed_region_code]

theorem Settings.rechecked_eq (d : Disturbance) (t : Settings) :
    t.rechecked d = if settingsPass d t then t else .powerOn := by
  show (if settingsPass d t then { t with codeAgrees := settingsPass d t } else Settings.powerOn) = _
  split
  next pass =>
    obtain ⟨code, -⟩ := Bool.and_eq_true_iff.mp pass
    rw [pass, ← code]
  next => rfl

/-- The checks re-arm the C-full notice flag; the engine state and the port last served stay (R161). -/
theorem rechecked_flags (d : Disturbance) (e : Engine) :
    (e.rechecked d).cFullArmed = true ∧ (e.rechecked d).mode = e.mode ∧
      (e.rechecked d).lastServed = e.lastServed := by
  simp only [Engine.rechecked, Engine.adjusted, Engine.checkedRegions, Engine.checkedRecords, Engine.disturbed,
    and_self]

/-! ## What the checks leave of the tables -/

/-- Filtering after a change that leaves alone what the filter keeps. -/
theorem filter_map_of_fixed {α : Type} {f : α → α} {p q : α → Bool} (test : ∀ a, p (f a) = q a)
    (fixed : ∀ a, q a = true → f a = a) (o : Option α) : (o.map f).filter p = o.filter q := by
  cases o with
  | none => rfl
  | some a =>
    rw [Option.map_some, Option.filter_some, Option.filter_some, test]
    split
    next keep => rw [fixed a keep]
    next => rfl

theorem checked_disturbed_cTable (d : Disturbance) (e : Engine) (i : CSlot) :
    (e.disturbed d).checkedRecords.cTable[i] = e.cTable[i].filter (cPasses d e i) := by
  rw [checkedRecords_cTable, disturbed_cTable]
  apply filter_map_of_fixed
  case test => exact fun r => recordKept_disturbed d e _ r.core
  case fixed =>
    intro r pass
    rw [disturbed_of_passes pass]

theorem checked_disturbed_sTable (d : Disturbance) (e : Engine) (i : SSlot) :
    (e.disturbed d).checkedRecords.sTable[i] = e.sTable[i].filter (sPasses d e i) := by
  rw [checkedRecords_sTable, disturbed_sTable]
  apply filter_map_of_fixed
  case test => exact fun r => recordKept_disturbed d e _ r.core
  case fixed =>
    intro r pass
    rw [disturbed_of_passes pass]

/-- Step 4 for a record whose code agrees (R161). -/
theorem CRecord.adjusted_of_coded {r : CRecord} (code : r.core.codeAgrees = true) :
    r.adjusted = if r.mode = .suspect then { r with mode := .counting, hardReason := none } else r := by
  have recoded : r.core.recoded = r.core := by rw [RecordCore.recoded, ← code]
  cases mode : r.mode <;> simp [CRecord.adjusted, mode, recoded]

theorem rechecked_cSlot_adjusted (d : Disturbance) (e : Engine) (i : CSlot) :
    (e.rechecked d).cTable[i] = (e.cTable[i].filter (cPasses d e i)).map CRecord.adjusted := by
  rw [Engine.rechecked, adjusted_cTable, checkedRegions_cTable, checked_disturbed_cTable]

theorem rechecked_cSlot_eq (d : Disturbance) (e : Engine) (i : CSlot) :
    (e.rechecked d).cTable[i] = (e.cTable[i].filter (cPasses d e i)).map fun r =>
      if r.mode = .suspect then { r with mode := .counting, hardReason := none } else r := by
  rw [rechecked_cSlot_adjusted]
  refine Option.map_congr fun r kept => CRecord.adjusted_of_coded ?_
  exact coded_of_passes (Option.filter_eq_some_iff.mp kept).2

theorem rechecked_sSlot_eq (d : Disturbance) (e : Engine) (i : SSlot) :
    (e.rechecked d).sTable[i] = e.sTable[i].filter (sPasses d e i) := by
  rw [Engine.rechecked, adjusted_sTable, checkedRegions_sTable, checked_disturbed_sTable]

/-! ## The numbers kept, pinned and failed -/

/-- Counting the entries of a table by their numbers. -/
theorem countP_toList_eq_finRange {α : Type} {n : Nat} (v : Vector α n) (p : α → Bool) :
    v.toList.countP p = (List.finRange n).countP fun i => p v[i] := by
  have same : v = Vector.ofFn fun i : Fin n => v[i] := vec_ext fun i => (ofFn_get (fun i : Fin n => v[i]) i).symm
  conv_lhs => rw [same]
  rw [Vector.toList_ofFn, List.ofFn_eq_map, List.countP_map]
  rfl

theorem countP_records_eq_finRange {α : Type} {n : Nat} (v : Vector (Option α) n) (p : α → Bool) :
    (v.toList.filterMap id).countP p = (List.finRange n).countP fun i => v[i].any p := by
  rw [countP_present, countP_toList_eq_finRange]

/-- The records kept in both tables (R162). -/
def keptCount (d : Disturbance) (e : Engine) : Nat :=
  ((List.finRange 32).countP fun i => e.cTable[i].any (cPasses d e i)) +
    (List.finRange 16).countP fun i => e.sTable[i].any (sPasses d e i)

/-- The entries that fail (R162). -/
def failedCount (d : Disturbance) (e : Engine) (t : Settings) : Nat :=
  ((List.finRange 16).countP fun m => !memoryPasses d e m) +
    ((List.finRange 32).countP fun i => e.cTable[i].any fun r => !cPasses d e i r) +
    ((List.finRange 16).countP fun i => e.sTable[i].any fun r => !sPasses d e i r) +
    ((List.finRange 13).countP fun ix => !regionPasses d e ix) + (if settingsPass d t then 0 else 1)

theorem keptRecords_rechecked (d : Disturbance) (e : Engine) : keptRecords (e.rechecked d) = keptCount d e := by
  have present {α : Type} {n : Nat} (v : Vector (Option α) n) :
      (v.toList.filterMap id).length = (List.finRange n).countP fun i => v[i].any fun _ => true := by
    rw [← countP_records_eq_finRange, List.countP_true]
  have c (i : CSlot) : ((e.rechecked d).cTable[i].any fun _ => true) = e.cTable[i].any (cPasses d e i) := by
    rw [rechecked_cSlot_adjusted, Option.any_map, Option.any_filter]
    simp
  have s (i : SSlot) : ((e.rechecked d).sTable[i].any fun _ => true) = e.sTable[i].any (sPasses d e i) := by
    rw [rechecked_sSlot_eq, Option.any_filter]
    simp
  rw [keptRecords, Engine.cRecords, Engine.sRecords, present, present]
  simp only [c, s]
  rfl

/-- The pinned count formed again is that of the records kept (R161). -/
theorem rechecked_pinnedCount_eq (d : Disturbance) (e : Engine) :
    (e.rechecked d).pinnedCount =
      (List.finRange 32).countP fun i => e.cTable[i].any fun r => cPasses d e i r && r.pinned := by
  rw [rechecked_pinnedCount, pinsIn_eq_finRange]
  refine List.countP_congr fun i _ => ?_
  rw [holdsPinned, rechecked_cSlot_adjusted, Option.any_map, Option.any_filter]
  simp only [CRecord.adjusted_pinned]

theorem failingMemories_disturbed (d : Disturbance) (e : Engine) :
    failingMemories (e.disturbed d) = (List.finRange 16).countP fun m => !memoryPasses d e m := by
  rw [failingMemories, countP_toList_eq_finRange]
  simp only [disturbed_memory_code]

theorem failingRegions_disturbed (d : Disturbance) (e : Engine) :
    failingRegions (e.disturbed d) = (List.finRange 13).countP fun ix => !regionPasses d e ix := by
  rw [failingRegions, countP_toList_eq_finRange]
  simp only [disturbed_region_code]

theorem droppedRecords_disturbed (d : Disturbance) (e : Engine) :
    droppedRecords (e.disturbed d) =
      ((List.finRange 32).countP fun i => e.cTable[i].any fun r => !cPasses d e i r) +
        (List.finRange 16).countP fun i => e.sTable[i].any fun r => !sPasses d e i r := by
  rw [droppedRecords, Engine.cRecords, Engine.sRecords, countP_records_eq_finRange, countP_records_eq_finRange]
  simp only [disturbed_cTable, disturbed_sTable, Option.any_map, recordKept_disturbed]
  rfl

theorem failingEntries_disturbed (d : Disturbance) (s : State) :
    failingEntries (disturbRetained d s) = failedCount d s.engine s.win.settings := by
  have settings : (!settingsPass d s.win.settings).toNat = if settingsPass d s.win.settings then 0 else 1 := by
    cases settingsPass d s.win.settings <;> rfl
  show failingMemories (s.engine.disturbed d) + droppedRecords (s.engine.disturbed d) +
    failingRegions (s.engine.disturbed d) + (!settingsPass d s.win.settings).toNat = _
  rw [failingMemories_disturbed, droppedRecords_disturbed, failingRegions_disturbed, settings, ← Nat.add_assoc]
  rfl

/-! ## The outcome posted -/

/-- The notice queue after the outcome is posted where both notices have room (R128, R162). -/
def outcomeNotices (kept failed : Nat) (stamp : Stamp) (q : NoticeQueue) : NoticeQueue :=
  let posted (seq : Word) (body : NoticeBody) : Notice :=
    { seq := seq, body := body, stamp := stamp, deadline := none, expired := false }
  { entries := q.entries ++ posted q.nextSeq (.resumed (BitVec.ofNat 8 kept)) ::
      (if failed = 0 then [] else [posted (q.nextSeq + 1) (.retentionLost (BitVec.ofNat 8 failed))])
    nextSeq := q.nextSeq + (if failed = 0 then 1 else 2)
    lost := q.lost }

theorem postOutcome_room {s : State} (room : s.notices.entries.length ≤ 14) (failed : Nat) :
    postOutcome failed s = s.setNotices (outcomeNotices (keptRecords s.engine) failed s.time.stamp s.notices) := by
  unfold postOutcome outcomeNotices
  dsimp only
  rw [post_room (by omega)]
  split
  next => rfl
  next =>
    have roomForSecond : s.notices.entries.length + 1 < 16 := by omega
    rw [post_room (by simpa [enterNotice] using roomForSecond)]
    simp [enterNotice, noticeAt, State.setNotices, BitVec.add_assoc]

/-! ## END_OF_WARM_RESET -/

/-- Steps 1 to 4 after a disturbance change the engine and the settings only (R157). -/
theorem checkRetained_disturbed (d : Disturbance) (s : State) :
    checkRetained (disturbRetained d s) =
      { s with
        engine := s.engine.rechecked d
        win := { s.win with settings := s.win.settings.rechecked d } } := by
  unfold checkRetained disturbRetained Engine.rechecked Settings.rechecked
  rfl

/-- The end-of-warm-reset steps after a disturbance: the parts they change (R157 to R162). -/
theorem endSteps_disturbed {s : State} (d : Disturbance) (room : s.notices.entries.length ≤ 14) :
    endSteps (disturbRetained d s) =
      { s with
        engine := s.engine.rechecked d
        win := { s.win with settings := s.win.settings.rechecked d }
        notices :=
          outcomeNotices (keptCount d s.engine) (failedCount d s.engine s.win.settings) s.time.stamp s.notices } := by
  rw [endSteps, failingEntries_disturbed, checkRetained_disturbed, postOutcome_room (by exact room),
    keptRecords_rechecked]
  rfl

/-- The release of WRST in a warm reset in progress makes the checks (R157). -/
theorem releaseWrst_warm {s : State} (d : Disturbance) (wrst : s.resets.wrst = true) (warm : s.resets.warm = true)
    (porst : s.resets.porst = false) :
    releaseWrst d s =
      endSteps (disturbRetained d (s.setResets { porst := false, wrst := false, warm := false })) := by
  have inProgress : (s.resets.wrst && s.resets.warm && !s.resets.porst) = true := by
    rw [wrst, warm, porst]
    rfl
  unfold releaseWrst
  dsimp only
  rw [if_pos inProgress, porst]

/-- The whole next state of END_OF_WARM_RESET in a warm reset in progress (R157 to R162). -/
theorem exec_endOfWarmReset_warm {s : State} (d : Disturbance) (wrst : s.resets.wrst = true)
    (warm : s.resets.warm = true) (porst : s.resets.porst = false) (room : s.notices.entries.length ≤ 14) :
    exec (.endOfWarmReset d) s = .next { s with
      engine := s.engine.rechecked d
      win := { s.win with settings := s.win.settings.rechecked d }
      notices := outcomeNotices (keptCount d s.engine) (failedCount d s.engine s.win.settings) s.time.stamp s.notices
      resets := { porst := false, wrst := false, warm := false } } := by
  show Host.Outcome.next (releaseWrst d s) = _
  rw [releaseWrst_warm d wrst warm porst, endSteps_disturbed d (by exact room)]
  rfl

/-- Settles O53: the next state as one equation, and each part of it entry by entry. -/
theorem endOfWarmResetChecksAndAdjusts : Obligations.EndOfWarmResetChecksAndAdjusts := by
  unfold Obligations.EndOfWarmResetChecksAndAdjusts
  intro s d wrst warm porst room memOk cOk sOk regionOk settingsOk kept failed posted
  have memory (m : MemId) : State.reset.engine.memories[m] = .powerOn := Vector.getElem_replicate _
  have region (ix : RegionIx) : State.reset.engine.regions[ix] = .powerOn := Vector.getElem_replicate _
  have range (i : Fin 12) : State.reset.engine.ranges[i] = .powerOn := Vector.getElem_replicate _
  obtain ⟨armed, mode, lastServed⟩ := rechecked_flags d s.engine
  refine ⟨_, exec_endOfWarmReset_warm d wrst warm porst room, fun m => ?_, rechecked_cSlot_eq d s.engine,
    rechecked_sSlot_eq d s.engine, fun ix => ?_, fun i => ?_, rechecked_pinnedCount_eq d s.engine, armed, mode,
    lastServed, ?_, rfl, rfl, rfl, rfl, rfl, rfl, rfl⟩
  · rw [memory]
    exact rechecked_memory_eq d s.engine m
  · rw [region]
    exact rechecked_region_eq d s.engine ix
  · rw [range]
    exact rechecked_range_eq d s.engine i
  · rw [Settings.rechecked_eq]
    rfl

end Sys2Proof.Machine
end

section
/-! SUPPORT. The COMMAND register of the host window: its writes by the command state and by the code written, the
overrun indication, and the timing commands. -/

namespace Sys2Proof.Machine

section
variable {s : State} {c : Command} {code : Word}

/-! ## Writes of COMMAND -/

theorem exec_commandAccepted (running : s.held = false) (code : Word) :
    exec (.commandAccepted code) s = .next (writeCommand code s) := congrArg _ (whenRunning_running _ running)

theorem exec_unknownCommand (running : s.held = false) (code : Word) :
    exec (.unknownCommand code) s = .next (writeCommand code s) := congrArg _ (whenRunning_running _ running)

theorem exec_commandOverrun (running : s.held = false) (code : Word) :
    exec (.commandOverrun code) s = .next (writeCommand code s) := congrArg _ (whenRunning_running _ running)

theorem exec_setTiming (running : s.held = false) : exec .setTiming s = .next (writeCommand 0x17#16 s) :=
  congrArg _ (whenRunning_running _ running)

theorem exec_readTiming (running : s.held = false) : exec .readTiming s = .next (writeCommand 0x18#16 s) :=
  congrArg _ (whenRunning_running _ running)

/-- COMMAND stands at 04h (Table 11-3). -/
theorem writeRegister_command (code : Word) (s : State) : writeRegister 0x04#5 code s = writeCommand code s := by
  rw [writeRegister, if_neg (by decide), if_pos rfl]

theorem writeCommand_busy (busy : s.win.cmdState = .busy) (code : Word) :
    writeCommand code s = s.setWin { s.win with overrun := true } := by
  rw [writeCommand, busy]

theorem writeCommand_known (idle : s.win.cmdState ≠ .busy) (named : commandOf code = some c) :
    writeCommand code s = acceptCommand c (acceptCode code s) := by
  unfold writeCommand
  split
  next busy => exact absurd busy idle
  all_goals rw [named]

theorem writeCommand_unknown (idle : s.win.cmdState ≠ .busy) (unnamed : commandOf code = none) :
    writeCommand code s = complete .badParam none (acceptCode code s) := by
  unfold writeCommand
  split
  next busy => exact absurd busy idle
  all_goals rw [unnamed]

/-- The codes of commands are 01h to 18h (Table 11-5). -/
theorem commandOf_range (named : commandOf code = some c) : 1 ≤ code.toNat ∧ code.toNat ≤ 0x18 := by
  unfold commandOf at named
  split at named
  case h_25 => cases named
  all_goals omega

theorem commandOf_unknown (outside : code = 0 ∨ 0x18 < code.toNat) : commandOf code = none := by
  refine Option.eq_none_iff_forall_ne_some.mpr fun c named => ?_
  obtain ⟨least, greatest⟩ := commandOf_range named
  rcases outside with rfl | above
  · exact absurd least (by decide)
  · exact absurd greatest (Nat.not_le.mpr above)

/-! ## The acceptance of a command -/

/-- A port command goes to the port that PARAM0 names (R96). -/
theorem acceptCommand_port {ix : PortIx} (port : c.toPort = true) (number : (s.param 0).toNat = ix.val) :
    acceptCommand c s = makePending c (.port ix) s := by
  unfold acceptCommand
  rw [if_pos port, wordBelow_some number]

theorem acceptCommand_noPort (port : c.toPort = true) (above : 5 < (s.param 0).toNat) :
    acceptCommand c s = complete .badParam none s := by
  unfold acceptCommand
  rw [if_pos port, wordBelow_none above]

/-- A command of another block than the window goes to the owner of its code (Table 10-2). -/
theorem acceptCommand_owner {o : Owner} (port : c.toPort = false) (owner : c.fixedOwner = o) (block : o ≠ .window) :
    acceptCommand c s = makePending c o s := by
  subst owner
  unfold acceptCommand
  rw [port, if_neg nofun]
  split
  · exact absurd rfl block
  · exact absurd rfl block
  · rfl

/-- A write of a code that names a command of one owner makes it pending there (R165). -/
theorem exec_commandAccepted_owner {o : Owner} (running : s.held = false) (idle : s.win.cmdState ≠ .busy)
    (row : commandOf code = some c ∧ c.toPort = false ∧ c.fixedOwner = o) (block : o ≠ .window) :
    exec (.commandAccepted code) s = .next (makePending c o (acceptCode code s)) := by
  obtain ⟨named, port, owner⟩ := row
  rw [exec_commandAccepted running, writeCommand_known idle named, acceptCommand_owner port owner block]

/-- Settles O47: a write by what its code names, and the fields that a completion writes. -/
theorem commandWritesAreAccepted : Obligations.CommandWritesAreAccepted := by
  unfold Obligations.CommandWritesAreAccepted
  intro s code running idle
  have write := exec_commandAccepted running code
  refine ⟨?_, ?_, fun outside => ?_, fun c listed => ?_, fun c listed => ?_, fun r views t => ?_, fun e => ?_,
    fun e => ?_, fun e => ?_⟩
  · rw [exec_registerWrite running, writeRegister_command, write]
  · rw [exec_unknownCommand running, write]
  · rw [exec_unknownCommand running, writeCommand_unknown idle (commandOf_unknown outside)]
    rfl
  · have row := (by decide : ∀ p ∈ _, commandOf p.1 = some p.2 ∧ p.2.toPort = false ∧ p.2.fixedOwner = .engine)
      _ listed
    exact exec_commandAccepted_owner running idle row nofun
  · obtain ⟨named, port⟩ := (by decide : ∀ p ∈ _, commandOf p.1 = some p.2 ∧ p.2.toPort = true) _ listed
    rw [write, writeCommand_known idle named]
    exact ⟨fun above => congrArg _ (acceptCommand_noPort port above),
      fun ix number => congrArg _ (acceptCommand_port port number)⟩
  · cases views <;> rfl
  all_goals
    subst e
    exact exec_commandAccepted_owner running idle ⟨rfl, rfl, rfl⟩ nofun

/-! ## The overrun indication -/

theorem setTiming_overrun (s : State) : (setTiming s).win.overrun = s.win.overrun := by
  unfold setTiming
  split
  · rfl
  · split <;> rfl

theorem acceptCommand_overrun (c : Command) (s : State) : (acceptCommand c s).win.overrun = s.win.overrun := by
  unfold acceptCommand
  split
  · split <;> rfl
  · split
    · exact setTiming_overrun s
    · rfl
    · rfl

/-- The acceptance of a code, known or not, clears the overrun indication (R165). -/
theorem writeCommand_overrun (idle : s.win.cmdState ≠ .busy) (code : Word) :
    (writeCommand code s).win.overrun = false := by
  cases named : commandOf code with
  | none => rw [writeCommand_unknown idle named]; rfl
  | some c => rw [writeCommand_known idle named, acceptCommand_overrun]; rfl

/-- Settles O48: every write of COMMAND is ignored and marked while BUSY, and what keeps and clears the mark. -/
theorem overrunIsIgnoredAndMarked : Obligations.OverrunIsIgnoredAndMarked := by
  unfold Obligations.OverrunIsIgnoredAndMarked
  intro s code running
  refine ⟨fun busy => ?_, fun idle => ?_, fun _ _ => rfl, ⟨assertPorst s, rfl, rfl⟩,
    ⟨startWarmReset s, congrArg _ (assertWrst_running running), rfl⟩⟩
  · have ignored := writeCommand_busy busy
    simp only [List.forall_mem_cons]
    refine ⟨?_, ?_, ?_, ?_, ?_, ?_, nofun⟩
    · exact (exec_commandOverrun running code).trans (congrArg _ (ignored code))
    · exact (exec_commandAccepted running code).trans (congrArg _ (ignored code))
    · exact (exec_unknownCommand running code).trans (congrArg _ (ignored code))
    · exact (exec_setTiming running).trans (congrArg _ (ignored _))
    · exact (exec_readTiming running).trans (congrArg _ (ignored _))
    · rw [exec_registerWrite running, writeRegister_command, ignored]
      rfl
  · exact ⟨writeCommand code s, exec_commandAccepted running code, writeCommand_overrun idle code⟩

/-! ## SET_TIMING and READ_TIMING -/

/-- Check 2 of SET_TIMING: PARAM1 to PARAM4 in their ranges (R171). -/
theorem timing_inRange_iff (verify retry frame ack : Word) :
    1 ≤ verify.toNat ∧ verify.toNat ≤ 4095 ∧ 1 ≤ retry.toNat ∧ retry.toNat ≤ 7 ∧ 1 ≤ frame.toNat ∧
        frame.toNat ≤ 255 ∧ ack ≠ 0 ↔
      ¬ (verify = 0 ∨ 4095 < verify.toNat ∨ retry = 0 ∨ 7 < retry.toNat ∨ frame = 0 ∨ 255 < frame.toNat ∨
        ack = 0) := by
  have positive (w : Word) : 1 ≤ w.toNat ↔ w ≠ 0 := by bv_omega
  simp only [not_or, Nat.not_lt, positive]

theorem setTiming_run (run : s.engine.mode = .run) : setTiming s = complete .refusedState none s := by
  rw [setTiming, run]

theorem setTiming_badParam (config : s.engine.mode = .config) (params : timingParams s = none) :
    setTiming s = complete .badParam none s := by
  rw [setTiming, config]
  dsimp only
  rw [params]

theorem setTiming_ok {t : Settings} (config : s.engine.mode = .config) (params : timingParams s = some t) :
    setTiming s = complete .ok none (s.setWin { s.win with settings := t }) := by
  rw [setTiming, config]
  dsimp only
  rw [params]

/-- A timing command is carried out within the access that writes its code (R167). -/
theorem exec_setTiming_idle (running : s.held = false) (idle : s.win.cmdState ≠ .busy) :
    exec .setTiming s = .next (setTiming (acceptCode 0x17#16 s)) :=
  (exec_setTiming running).trans (congrArg _ (writeCommand_known (c := .setTiming) idle rfl))

theorem exec_readTiming_idle (running : s.held = false) (idle : s.win.cmdState ≠ .busy) :
    exec .readTiming s = .next (readTiming (acceptCode 0x18#16 s)) :=
  (exec_readTiming running).trans (congrArg _ (writeCommand_known (c := .readTiming) idle rfl))

theorem verifyTimeoutWord (timeout : BitVec 12) : fieldAt timeout 0 = 0#4 ++ timeout :=
  word_of_fields (by simp only [fieldAt_append, fieldAt_zero, BitVec.or_zero])

theorem retryLimitWord (limit : BitVec 3) : fieldAt limit 0 = 0#13 ++ limit :=
  word_of_fields (by simp only [fieldAt_append, fieldAt_zero, BitVec.or_zero])

/-- Settles O49: SET_TIMING by its checks in their order, READ_TIMING, and the words of its view. -/
theorem setAndReadTiming : Obligations.SetAndReadTiming := by
  unfold Obligations.SetAndReadTiming
  intro s running idle accepted outside
  have write := exec_setTiming_idle running idle
  refine ⟨rfl, rfl, exec_readTiming_idle running idle, fun run => ?_, fun config bad => ?_, fun config good => ?_,
    fun c => ?_⟩
  · exact write.trans (congrArg _ (setTiming_run run))
  · have params : timingParams (acceptCode 0x17#16 s) = none :=
      if_neg fun range => (timing_inRange_iff _ _ _ _).mp range bad
    exact write.trans (congrArg _ (setTiming_badParam config params))
  · have params : timingParams (acceptCode 0x17#16 s) = some _ := if_pos ((timing_inRange_iff _ _ _ _).mpr good)
    exact write.trans (congrArg _ (setTiming_ok config params))
  · exact viewOf_congr rfl (verifyTimeoutWord _) (retryLimitWord _) (lowByteWord _) rfl rfl rfl rfl

end

end Sys2Proof.Machine
end

section
/-! SUPPORT. The step on a queue that is not empty. -/

namespace Sys2Proof.Machine

/-- The counterpart of `step_idle`: a command that waits at the front is taken off the queue and carried out. -/
theorem step_front {s : State} {c : Instr} {rest : List Instr} (h : s.pending = c :: rest) :
    step s = exec c (s.withPending rest) := by
  rw [step, h]

/-- Settles O1: the rest of the queue, set by `withPending`, is the only field that differs. -/
theorem stepRunsFrontCommand : Obligations.StepRunsFrontCommand := by
  unfold Obligations.StepRunsFrontCommand
  exact fun _ _ _ => step_front

end Sys2Proof.Machine
end

section
/-! SUPPORT. The laws of verification over its view, and what keeps them: a job put in the place of the job of its slot, a
job removed, a tag or a dispatch changed. -/

namespace Sys2Proof.Machine

/-! ## The view of verification -/

/-- The key of a record that asks for a job: a SUSPECT one (R104). -/
def CRecord.suspectKey (r : CRecord) : Option Key := if r.mode = .suspect then some r.core.key else none

/-- What the laws of verification speak of: the queue, the order of ANSWERED jobs, the next name, the keys of the SUSPECT
records by C slot, the outstanding tag of each port, and the dispatches that each port has still to take (R93, R103, R108).
A cancel request handed to a port is not among it. -/
abbrev Verification :=
  List Job × List CSlot × Nat × (CSlot → Option Key) × (PortIx → Option Tag) × (PortIx → List Handover)

abbrev Verification.jobs (v : Verification) : List Job := v.1

abbrev Verification.answered (v : Verification) : List CSlot := v.2.1

abbrev Verification.nextJob (v : Verification) : Nat := v.2.2.1

abbrev Verification.suspects (v : Verification) : CSlot → Option Key := v.2.2.2.1

abbrev Verification.tags (v : Verification) : PortIx → Option Tag := v.2.2.2.2.1

abbrev Verification.dispatches (v : Verification) : PortIx → List Handover := v.2.2.2.2.2

def State.verification (s : State) : Verification :=
  (s.sched.jobs, s.sched.answered, s.sched.nextJob, fun slot => s.engine.cTable[slot].bind CRecord.suspectKey,
    fun ix => s.ports[ix].outstanding, fun ix => s.sched.handovers[ix].filter Handover.isDispatch)

def Verification.withJobs (v : Verification) (q : List Job) : Verification := (q, v.2)

def Verification.withSuspects (v : Verification) (f : CSlot → Option Key) : Verification :=
  (v.jobs, v.answered, v.nextJob, f, v.tags, v.dispatches)

def Verification.withTags (v : Verification) (f : PortIx → Option Tag) : Verification :=
  (v.jobs, v.answered, v.nextJob, v.suspects, f, v.dispatches)

def Verification.withAllDispatches (v : Verification) (f : PortIx → List Handover) : Verification :=
  (v.jobs, v.answered, v.nextJob, v.suspects, v.tags, f)

def Verification.withTag (v : Verification) (ix : PortIx) (o : Option Tag) : Verification :=
  v.withTags (Function.update v.tags ix o)

def Verification.withDispatches (v : Verification) (ix : PortIx) (l : List Handover) : Verification :=
  v.withAllDispatches (Function.update v.dispatches ix l)

def Verification.withSuspect (v : Verification) (slot : CSlot) (o : Option Key) : Verification :=
  v.withSuspects (Function.update v.suspects slot o)

theorem Verification.withDispatches_self (v : Verification) (ix : PortIx) : v.withDispatches ix (v.dispatches ix) = v :=
  congrArg v.withAllDispatches (Function.update_eq_self ..)

theorem Verification.withSuspect_self (v : Verification) (slot : CSlot) : v.withSuspect slot (v.suspects slot) = v :=
  congrArg v.withSuspects (Function.update_eq_self ..)

theorem Verification.withTag_self (v : Verification) (ix : PortIx) : v.withTag ix (v.tags ix) = v :=
  congrArg v.withTags (Function.update_eq_self ..)

section
variable {s t : State}

theorem verification_congr (sched : t.sched = s.sched) (cTable : t.engine.cTable = s.engine.cTable)
    (ports : t.ports = s.ports) : t.verification = s.verification := by
  simp only [State.verification, sched, cTable, ports]

theorem suspects_setSlot {slot : CSlot} {e : Engine} (o : Option CRecord)
    (cTable : e.cTable = s.engine.cTable.set slot.val o) :
    (s.setEngine e).verification =
      s.verification.withSuspect slot (o.bind CRecord.suspectKey) := by
  refine congrArg s.verification.withSuspects (funext fun i => ?_)
  show (e.cTable[i]).bind _ = _
  rw [cTable, set_get]
  by_cases same : slot = i
  · subst same
    rw [if_pos rfl, Function.update_self]
  · rw [if_neg same, Function.update_of_ne (Ne.symm same)]
    rfl

theorem putC_verification (slot : CSlot) (r : CRecord) (s : State) :
    (s.putC slot r).verification =
      s.verification.withSuspect slot r.suspectKey :=
  suspects_setSlot (some { r with core := r.core.recoded }) rfl

theorem freedC_verification (slot : CSlot) (r : CRecord) (s : State) :
    (s.freedC slot r).verification =
      s.verification.withSuspect slot none :=
  suspects_setSlot none rfl

theorem suspects_at {slot : CSlot} {r : CRecord} (at_ : s.engine.cTable[slot] = some r) :
    s.verification.suspects slot = r.suspectKey := by
  show (s.engine.cTable[slot]).bind _ = _
  rw [at_]
  rfl

theorem suspectKey_none {r : CRecord} (h : r.mode ≠ .suspect) : r.suspectKey = none := if_neg h

end

/-! ## The queue in class order -/

/-- The URGENT jobs of a queue stand ahead of the NORMAL ones (R105). -/
def ClassOrder (q : List Job) : Prop :=
  ∃ urgents normals, q = urgents ++ normals ∧ (∀ k ∈ urgents, k.cls = .urgent) ∧ ∀ k ∈ normals, k.cls = .normal

theorem normal_iff (j : Job) : j.urgent = false ↔ j.cls = .normal := by
  unfold Job.urgent
  cases j.cls <;> decide

theorem urgentFirst_iff (s : State) : UrgentFirst s ↔ ClassOrder s.sched.jobs := by
  unfold UrgentFirst ClassOrder
  constructor
  · refine fun split => ⟨_, _, split, fun k hk => ?_, fun k hk => ?_⟩
    · obtain ⟨-, urgent⟩ := List.mem_filter.mp hk
      exact (urgent_iff k).mp urgent
    · obtain ⟨-, normal⟩ := List.mem_filter.mp hk
      exact (normal_iff k).mp (by simpa using normal)
  · rintro ⟨urgents, normals, split, hu, hn⟩
    have left (k : Job) (hk : k ∈ urgents) : k.urgent = true := (urgent_iff k).mpr (hu k hk)
    have right (k : Job) (hk : k ∈ normals) : k.urgent = false := (normal_iff k).mpr (hn k hk)
    rw [split, List.filter_append, List.filter_append, List.filter_eq_self.mpr left,
      List.filter_eq_nil_iff.mpr fun k hk => by simp [right k hk],
      List.filter_eq_nil_iff.mpr fun k hk => by simp [left k hk],
      List.filter_eq_self.mpr fun k hk => by simp [right k hk], List.append_nil, List.nil_append]

section
variable {q : List Job} {j j' : Job}

theorem ClassOrder.withoutJob (h : ClassOrder q) (slot : CSlot) : ClassOrder (withoutJob slot q) := by
  obtain ⟨urgents, normals, rfl, hu, hn⟩ := h
  exact ⟨_, _, List.filter_append .., fun k hk => hu k (List.mem_of_mem_filter hk),
    fun k hk => hn k (List.mem_of_mem_filter hk)⟩

/-- A job between the classes, at the side of its own (R105). -/
theorem classOrder_between {urgents normals : List Job} (j : Job) (hu : ∀ k ∈ urgents, k.cls = .urgent)
    (hn : ∀ k ∈ normals, k.cls = .normal) : ClassOrder (urgents ++ j :: normals) := by
  cases cls : j.cls with
  | urgent =>
    refine ⟨urgents ++ [j], normals, by simp, fun k hk => ?_, hn⟩
    rcases List.mem_append.mp hk with mem | mem
    · exact hu k mem
    · exact List.mem_singleton.mp mem ▸ cls
  | normal => exact ⟨urgents, j :: normals, rfl, hu, List.forall_mem_cons.mpr ⟨cls, hn⟩⟩

theorem ClassOrder.insertTail (h : ClassOrder q) (j : Job) : ClassOrder (insertTail j q) := by
  obtain ⟨urgents, normals, rfl, hu, hn⟩ := h
  rw [insertTail_split j hu hn]
  split
  · exact classOrder_between j hu hn
  next cls =>
    have normal : j.cls = .normal := (normal_iff j).mp (Bool.eq_false_iff.mpr (mt (urgent_iff j).mp cls))
    refine ⟨urgents, normals ++ [j], List.append_assoc .., hu, fun k hk => ?_⟩
    rcases List.mem_append.mp hk with mem | mem
    · exact hn k mem
    · exact List.mem_singleton.mp mem ▸ normal

theorem ClassOrder.insertHead (h : ClassOrder q) (j : Job) : ClassOrder (insertHead j q) := by
  obtain ⟨urgents, normals, rfl, hu, hn⟩ := h
  rw [insertHead_split j hu hn]
  split
  next urgent => exact ⟨j :: urgents, normals, rfl, List.forall_mem_cons.mpr ⟨urgent, hu⟩, hn⟩
  next => exact classOrder_between j hu hn

/-- Only the classes of the jobs matter, place by place. -/
theorem ClassOrder.of_map_cls {q' : List Job} (h : ClassOrder q) (same : q'.map Job.cls = q.map Job.cls) :
    ClassOrder q' := by
  obtain ⟨urgents, normals, rfl, hu, hn⟩ := h
  rw [List.map_append] at same
  obtain ⟨us, ns, rfl, mu, mn⟩ := List.map_eq_append_iff.mp same
  have cls_of {l l' : List Job} {c : JobClass} (e : l.map Job.cls = l'.map Job.cls) (all : ∀ k ∈ l', k.cls = c) :
      ∀ k ∈ l, k.cls = c := fun k hk => by
    obtain ⟨k', hk', e'⟩ := List.mem_map.mp (e ▸ List.mem_map_of_mem hk)
    exact e'.symm.trans (all k' hk')
  exact ⟨us, ns, rfl, cls_of mu hu, cls_of mn hn⟩

theorem betweenClasses_perm (j : Job) (q : List Job) : (betweenClasses j q).Perm (j :: q) := by
  have joined : j :: q = j :: (q.takeWhile Job.urgent ++ q.dropWhile Job.urgent) := by rw [List.takeWhile_append_dropWhile]
  rw [joined]
  exact List.perm_middle

theorem insertTail_perm (j : Job) (q : List Job) : (insertTail j q).Perm (j :: q) := by
  unfold Machine.insertTail
  split
  · exact betweenClasses_perm j q
  · exact List.perm_append_comm

theorem insertHead_perm (j : Job) (q : List Job) : (insertHead j q).Perm (j :: q) := by
  unfold Machine.insertHead
  split
  · exact .refl _
  · exact betweenClasses_perm j q

theorem mem_withoutJob {slot : CSlot} {k : Job} : k ∈ withoutJob slot q ↔ k ∈ q ∧ k.slot ≠ slot := by
  simp [Machine.withoutJob]

/-! ## Two jobs of one queue -/

/-- Two jobs that can stand in one queue: for two records, under two names, and not both IN_FLIGHT on one port (R93, R103). -/
def Job.Apart (j k : Job) : Prop :=
  j.slot ≠ k.slot ∧ j.id ≠ k.id ∧ ∀ ix, j.flyingOn ix = true → k.flyingOn ix = true → False

theorem Job.Apart.slot (h : j.Apart j') : j.slot ≠ j'.slot := h.1

theorem Job.Apart.id (h : j.Apart j') : j.id ≠ j'.id := h.2.1

theorem Job.Apart.port (h : j.Apart j') (ix : PortIx) : j.flyingOn ix = true → j'.flyingOn ix = true → False := h.2.2 ix

theorem Job.Apart.symm (h : j.Apart j') : j'.Apart j := ⟨h.slot.symm, h.id.symm, fun ix a b => h.port ix b a⟩

theorem apart_of_mem (h : q.Pairwise Job.Apart) (hj : j ∈ q) (hj' : j' ∈ q) (ne : j ≠ j') : j.Apart j' :=
  haveI : Std.Symm Job.Apart := ⟨fun _ _ => Job.Apart.symm⟩
  h.forall hj hj' ne

theorem eq_of_slot (h : q.Pairwise Job.Apart) (hj : j ∈ q) (hj' : j' ∈ q) (slot : j.slot = j'.slot) : j = j' :=
  by_contra fun ne => (apart_of_mem h hj hj' ne).slot slot

/-- A job changed in its place, as the queue without it and the changed job. -/
theorem replaceJob_perm (h : q.Pairwise Job.Apart) (queued : j ∈ q) (slot : j'.slot = j.slot) :
    (replaceJob j' q).Perm (j' :: withoutJob j.slot q) := by
  induction q with
  | nil => cases queued
  | cons k q ih =>
    obtain ⟨first, rest⟩ := List.pairwise_cons.mp h
    unfold replaceJob Machine.withoutJob
    rw [List.map_cons, List.filter_cons]
    by_cases same : k.slot = j.slot
    · have unchanged : q.map (fun x => if x.slot = j'.slot then j' else x) = q :=
        (List.map_congr_left fun x hx =>
          if_neg fun e => (first x hx).slot (same.trans (slot.symm.trans e.symm))).trans (List.map_id q)
      have none_of : q.filter (fun x => x.slot != j.slot) = q :=
        List.filter_eq_self.mpr fun x hx => by simpa [same] using (first x hx).slot.symm
      rw [if_pos (same.trans slot.symm), unchanged, if_neg (by simp [same]), none_of]
    · have later : j ∈ q := (List.mem_cons.mp queued).resolve_left fun e => same (congrArg Job.slot e.symm)
      rw [if_neg (fun e => same (e.trans slot)), if_pos (by simpa using same)]
      exact ((ih rest later).cons k).trans (.swap _ _ _)

/-- A job changed in its place within its class. -/
theorem ClassOrder.replaceJob (order : ClassOrder q) (h : q.Pairwise Job.Apart) (queued : j ∈ q)
    (slot : j'.slot = j.slot) (cls : j'.cls = j.cls) : ClassOrder (replaceJob j' q) := by
  refine order.of_map_cls ?_
  unfold Machine.replaceJob
  rw [List.map_map]
  refine List.map_congr_left fun k hk => ?_
  dsimp only [Function.comp]
  split
  next same => rw [cls, eq_of_slot h queued hk (slot.symm.trans same.symm)]
  next => rfl

end

/-! ## The laws of verification -/

/-- What the laws ask of one job of the queue: the record that it is for, its place among the ANSWERED, its tag, its name, and
the dispatch that offers it (R93, R103, R105, R108). -/
def Verification.Admits (v : Verification) (j : Job) : Prop :=
  v.suspects j.slot = some j.key ∧ (j.slot ∈ v.answered ↔ j.isAnswered = true) ∧
    (∀ ix tag d c, j.mode = .inFlight ix tag d c → v.tags ix = some tag) ∧ j.id < v.nextJob ∧
    ∀ ix tag, j.mode = .queued (some (ix, tag)) → ∃ m a, .dispatch j.id tag m a ∈ v.dispatches ix

/-- The laws of verification while the part runs: each job as they ask, the queue in class order, each SUSPECT record with
its job, each dispatch named below the next name and one a port. -/
def Verification.Lawful (v : Verification) : Prop :=
  v.jobs.Pairwise Job.Apart ∧ (∀ j ∈ v.jobs, v.Admits j) ∧ ClassOrder v.jobs ∧ v.answered.Nodup ∧
    (∀ slot ∈ v.answered, ∃ j ∈ v.jobs, j.slot = slot) ∧
    (∀ slot key, v.suspects slot = some key → ∃ j ∈ v.jobs, j.slot = slot) ∧
    (∀ ix id tag m a, Handover.dispatch id tag m a ∈ v.dispatches ix → id < v.nextJob) ∧
    ∀ ix, (v.dispatches ix).length ≤ 1

section
variable {v : Verification} {j : Job}

theorem Verification.Admits.record (h : v.Admits j) : v.suspects j.slot = some j.key := h.1

theorem Verification.Admits.ordered (h : v.Admits j) : j.slot ∈ v.answered ↔ j.isAnswered = true := h.2.1

theorem Verification.Admits.tagged (h : v.Admits j) :
    ∀ ix tag d c, j.mode = .inFlight ix tag d c → v.tags ix = some tag := h.2.2.1

theorem Verification.Admits.named (h : v.Admits j) : j.id < v.nextJob := h.2.2.2.1

theorem Verification.Admits.handed (h : v.Admits j) :
    ∀ ix tag, j.mode = .queued (some (ix, tag)) → ∃ m a, .dispatch j.id tag m a ∈ v.dispatches ix := h.2.2.2.2

theorem Verification.Lawful.apart (h : v.Lawful) : v.jobs.Pairwise Job.Apart := h.1

theorem Verification.Lawful.admits (h : v.Lawful) : ∀ j ∈ v.jobs, v.Admits j := h.2.1

theorem Verification.Lawful.classes (h : v.Lawful) : ClassOrder v.jobs := h.2.2.1

theorem Verification.Lawful.nodup (h : v.Lawful) : v.answered.Nodup := h.2.2.2.1

theorem Verification.Lawful.answers (h : v.Lawful) : ∀ slot ∈ v.answered, ∃ j ∈ v.jobs, j.slot = slot := h.2.2.2.2.1

theorem Verification.Lawful.covered (h : v.Lawful) :
    ∀ slot key, v.suspects slot = some key → ∃ j ∈ v.jobs, j.slot = slot := h.2.2.2.2.2.1

theorem Verification.Lawful.below (h : v.Lawful) :
    ∀ ix id tag m a, Handover.dispatch id tag m a ∈ v.dispatches ix → id < v.nextJob := h.2.2.2.2.2.2.1

theorem Verification.Lawful.single (h : v.Lawful) : ∀ ix, (v.dispatches ix).length ≤ 1 := h.2.2.2.2.2.2.2

end

/-- A port holds a tag only in READY (R90). -/
def TagsReady (s : State) : Prop := ∀ ix : PortIx, s.ports[ix].outstanding ≠ none → s.ports[ix].mode = .ready

theorem suspects_eq_some {s : State} {slot : CSlot} {key : Key} : s.verification.suspects slot = some key ↔
    ∃ r, s.engine.cTable[slot] = some r ∧ r.core.key = key ∧ r.mode = .suspect := by
  show (s.engine.cTable[slot]).bind _ = _ ↔ _
  simp only [Option.bind_eq_some_iff, CRecord.suspectKey, Option.ite_none_right_eq_some, Option.some.injEq]
  exact exists_congr fun r => and_congr_right fun _ => and_comm

theorem mem_dispatches {s : State} {ix : PortIx} {id : Nat} {tag : Tag} {m : MemId} {a : BitVec 32} :
    Handover.dispatch id tag m a ∈ s.verification.dispatches ix ↔ .dispatch id tag m a ∈ s.sched.handovers[ix] := by
  show _ ∈ List.filter _ _ ↔ _
  rw [List.mem_filter]
  exact and_iff_left rfl

theorem pairwise_apart_iff {q : List Job} : q.Pairwise Job.Apart ↔
    (q.map Job.slot).Nodup ∧ (q.map Job.id).Nodup ∧
      ∀ j ∈ q, ∀ j' ∈ q, ∀ ix : PortIx, j.flyingOn ix = true → j'.flyingOn ix = true → j = j' := by
  unfold List.Nodup
  rw [List.pairwise_map, List.pairwise_map]
  constructor
  · intro h
    exact ⟨h.imp Job.Apart.slot, h.imp Job.Apart.id, fun j hj j' hj' ix a b =>
      by_contra fun ne => (apart_of_mem h hj hj' ne).port ix a b⟩
  · rintro ⟨slots, ids, ports⟩
    refine ((slots.and ids).imp_of_mem fun hj hj' ⟨slot, id⟩ => ⟨slot, id, fun ix a b => slot ?_⟩)
    exact congrArg Job.slot (ports _ hj _ hj' ix a b)

/-- The laws of verification as the statements give them, at a part with no warm reset in progress. -/
theorem jobsLawful_iff {s : State} (cold : s.resets.warm = false) :
    JobsLawful s ↔ s.verification.Lawful ∧ TagsReady s := by
  constructor
  · rintro ⟨⟨slots, records, covered, nodup, answered, -⟩, urgent, ⟨tagged, ready⟩, flying, ⟨ids, named, below⟩, single,
      handed⟩
    refine ⟨⟨pairwise_apart_iff.mpr ⟨slots, ids, flying⟩, fun j hj => ?_, (urgentFirst_iff s).mp urgent, nodup,
      fun slot hs => ?_, fun slot key e => ?_, fun ix id tag m a mem => below ix id tag m a (mem_dispatches.mp mem),
      fun ix => ?_⟩, ready⟩
    · refine ⟨suspects_eq_some.mpr (records j hj), ?_, tagged j hj, named j hj, fun ix tag e => ?_⟩
      · refine (answered j.slot).trans ⟨fun ⟨k, hk, same, ans⟩ => ?_, fun ans => ⟨j, hj, rfl, ans⟩⟩
        rwa [← eq_of_slot (pairwise_apart_iff.mpr ⟨slots, ids, flying⟩) hk hj same]
      · obtain ⟨m, a, mem⟩ := handed j hj ix tag e
        exact ⟨m, a, mem_dispatches.mpr mem⟩
    · obtain ⟨j, hj, same, -⟩ := (answered slot).mp hs
      exact ⟨j, hj, same⟩
    · obtain ⟨r, at_, -, mode⟩ := suspects_eq_some.mp e
      exact covered slot r at_ mode cold
    · exact List.countP_eq_length_filter.symm.trans_le (single ix)
  · rintro ⟨h, ready⟩
    obtain ⟨slots, ids, flying⟩ := pairwise_apart_iff.mp h.apart
    refine ⟨⟨slots, fun j hj => suspects_eq_some.mp (h.admits j hj).record, fun slot r at_ mode _ => ?_, h.nodup,
      fun slot => ⟨fun hs => ?_, ?_⟩, by rw [cold]; nofun⟩, (urgentFirst_iff s).mpr h.classes,
      ⟨fun j hj => (h.admits j hj).tagged, ready⟩, flying,
      ⟨ids, fun j hj => (h.admits j hj).named, fun ix id tag m a mem => h.below ix id tag m a (mem_dispatches.mpr mem)⟩,
      fun ix => ?_, fun j hj ix tag e => ?_⟩
    · exact h.covered slot _ (suspects_eq_some.mpr ⟨r, at_, rfl, mode⟩)
    · obtain ⟨j, hj, same⟩ := h.answers slot hs
      exact ⟨j, hj, same, (h.admits j hj).ordered.mp (same ▸ hs)⟩
    · rintro ⟨j, hj, rfl, ans⟩
      exact (h.admits j hj).ordered.mpr ans
    · exact List.countP_eq_length_filter.trans_le (h.single ix)
    · obtain ⟨m, a, mem⟩ := (h.admits j hj).handed ix tag e
      exact ⟨m, a, mem_dispatches.mp mem⟩

/-! ## What keeps the laws -/

section
variable {v w : Verification} {j : Job}

/-- A job stands in the place of the job of its slot, if there was one; the order of ANSWERED jobs and the records go with
it, and nothing else differs but that names may have been given. -/
def Puts (j : Job) (v w : Verification) : Prop :=
  w.jobs.Perm (j :: withoutJob j.slot v.jobs) ∧ ClassOrder w.jobs ∧
    w.answered = v.answered.filter (fun k => k != j.slot) ++ (if j.isAnswered then [j.slot] else []) ∧
    (∀ slot, slot ≠ j.slot → w.suspects slot = v.suspects slot) ∧ w.tags = v.tags ∧ w.dispatches = v.dispatches ∧
    v.nextJob ≤ w.nextJob

theorem Puts.queue (p : Puts j v w) : w.jobs.Perm (j :: withoutJob j.slot v.jobs) := p.1

theorem Puts.classes (p : Puts j v w) : ClassOrder w.jobs := p.2.1

theorem Puts.answered (p : Puts j v w) :
    w.answered = v.answered.filter (fun k => k != j.slot) ++ if j.isAnswered then [j.slot] else [] := p.2.2.1

theorem Puts.suspects (p : Puts j v w) : ∀ slot, slot ≠ j.slot → w.suspects slot = v.suspects slot := p.2.2.2.1

theorem Puts.tags (p : Puts j v w) : w.tags = v.tags := p.2.2.2.2.1

theorem Puts.dispatches (p : Puts j v w) : w.dispatches = v.dispatches := p.2.2.2.2.2.1

theorem Puts.nextJob (p : Puts j v w) : v.nextJob ≤ w.nextJob := p.2.2.2.2.2.2

theorem Puts.mem (p : Puts j v w) {k : Job} : k ∈ w.jobs ↔ k = j ∨ k ∈ v.jobs ∧ k.slot ≠ j.slot := by
  rw [p.queue.mem_iff, List.mem_cons, mem_withoutJob]

theorem Puts.mem_answered (p : Puts j v w) {slot : CSlot} :
    slot ∈ w.answered ↔ slot ∈ v.answered ∧ slot ≠ j.slot ∨ j.isAnswered = true ∧ slot = j.slot := by
  rw [p.answered, List.mem_append, List.mem_filter]
  cases j.isAnswered <;> simp

/-- What a job of the queue was asked, it is asked still where another job is put. -/
theorem Puts.admits_other (p : Puts j v w) {k : Job} (other : k.slot ≠ j.slot) (h : v.Admits k) : w.Admits k := by
  refine ⟨(p.suspects _ other).trans h.record, ?_, ?_, h.named.trans_le p.nextJob, ?_⟩
  · rw [p.mem_answered, ← h.ordered]
    simp [other]
  · rw [p.tags]
    exact h.tagged
  · rw [p.dispatches]
    exact h.handed

/-- A job put in the queue that the laws allow, apart from those that stay. -/
theorem Verification.Lawful.put (h : v.Lawful) (p : Puts j v w)
    (apart : ∀ k ∈ v.jobs, k.slot ≠ j.slot → k.Apart j) (record : w.suspects j.slot = some j.key)
    (tagged : ∀ ix tag d c, j.mode = .inFlight ix tag d c → v.tags ix = some tag) (named : j.id < w.nextJob)
    (handed : ∀ ix tag, j.mode = .queued (some (ix, tag)) → ∃ m a, .dispatch j.id tag m a ∈ v.dispatches ix) :
    w.Lawful := by
  refine ⟨?_, fun k hk => ?_, p.classes, ?_, fun slot hs => ?_, fun slot key e => ?_, fun ix id tag m a mem => ?_, fun ix => ?_⟩
  · rw [p.queue.pairwise_iff Job.Apart.symm]
    refine List.pairwise_cons.mpr ⟨fun k hk => ?_, h.apart.filter _⟩
    obtain ⟨hk, other⟩ := mem_withoutJob.mp hk
    exact (apart k hk other).symm
  · rcases p.mem.mp hk with rfl | ⟨hk, other⟩
    · refine ⟨record, ?_, by rwa [p.tags], named, by rwa [p.dispatches]⟩
      rw [p.mem_answered]
      simp
    · exact p.admits_other other (h.admits k hk)
  · rw [p.answered]
    refine List.nodup_append.mpr ⟨h.nodup.filter _, by split <;> simp, fun a ha b hb => ?_⟩
    obtain ⟨-, other⟩ := List.mem_filter.mp ha
    split at hb
    · rw [List.mem_singleton.mp hb]
      simpa using other
    · cases hb
  · rcases p.mem_answered.mp hs with ⟨old, other⟩ | ⟨-, rfl⟩
    · obtain ⟨k, hk, same⟩ := h.answers slot old
      exact ⟨k, p.mem.mpr (.inr ⟨hk, same ▸ other⟩), same⟩
    · exact ⟨j, p.mem.mpr (.inl rfl), rfl⟩
  · by_cases same : slot = j.slot
    · exact ⟨j, p.mem.mpr (.inl rfl), same.symm⟩
    · obtain ⟨k, hk, at_⟩ := h.covered slot key ((p.suspects slot same).symm.trans e)
      exact ⟨k, p.mem.mpr (.inr ⟨hk, at_ ▸ same⟩), at_⟩
  · rw [p.dispatches] at mem
    exact (h.below ix id tag m a mem).trans_le p.nextJob
  · rw [p.dispatches]
    exact h.single ix

/-- The job of a slot, its record no longer SUSPECT, leaves the queue and the order of ANSWERED jobs. -/
def Verification.without (v : Verification) (slot : CSlot) : Verification :=
  (withoutJob slot v.jobs, v.answered.filter fun k => k != slot, (v.withSuspect slot none).2.2)

theorem Verification.Lawful.without (h : v.Lawful) (slot : CSlot) : (v.without slot).Lawful := by
  refine ⟨h.apart.filter _, fun k hk => ?_, h.classes.withoutJob slot, h.nodup.filter _, fun at_ mem => ?_,
    fun at_ key e => ?_, h.below, h.single⟩
  · obtain ⟨hk, other⟩ := mem_withoutJob.mp hk
    have old := h.admits k hk
    refine ⟨(Function.update_of_ne other _ _).trans old.record, ?_, old.tagged, old.named, old.handed⟩
    refine Iff.trans ?_ old.ordered
    show k.slot ∈ v.answered.filter _ ↔ _
    simp [List.mem_filter, other]
  · obtain ⟨old, other⟩ := List.mem_filter.mp mem
    obtain ⟨k, hk, same⟩ := h.answers at_ old
    exact ⟨k, mem_withoutJob.mpr ⟨hk, by rw [same]; simpa using other⟩, same⟩
  · by_cases same : at_ = slot
    · subst same
      cases (Function.update_self ..).symm.trans e
    · obtain ⟨k, hk, here⟩ := h.covered at_ key ((Function.update_of_ne same _ _).symm.trans e)
      exact ⟨k, mem_withoutJob.mpr ⟨hk, by rwa [here]⟩, here⟩

/-- A port's tag changes; every job IN_FLIGHT on it has the tag it then holds (R93). -/
theorem Verification.Lawful.setTag (h : v.Lawful) {ix : PortIx} {o : Option Tag}
    (tagged : ∀ j ∈ v.jobs, ∀ tag d c, j.mode = .inFlight ix tag d c → o = some tag) :
    (v.withTag ix o).Lawful := by
  refine ⟨h.apart, fun j hj => ?_, h.classes, h.nodup, h.answers, h.covered, h.below, h.single⟩
  have old := h.admits j hj
  exact ⟨old.record, old.ordered, (Function.forall_update_iff v.tags fun at_ o =>
    ∀ tag d c, j.mode = .inFlight at_ tag d c → o = some tag).mpr ⟨tagged j hj, fun at_ _ => old.tagged at_⟩,
    old.named, old.handed⟩

/-- The dispatches of a port change; every job offered to it is named by one of them (R108). -/
theorem Verification.Lawful.setDispatches (h : v.Lawful) {ix : PortIx} {l : List Handover} (single : l.length ≤ 1)
    (below : ∀ id tag m a, Handover.dispatch id tag m a ∈ l → id < v.nextJob)
    (handed : ∀ j ∈ v.jobs, ∀ tag, j.mode = .queued (some (ix, tag)) → ∃ m a, .dispatch j.id tag m a ∈ l) :
    (v.withDispatches ix l).Lawful := by
  refine ⟨h.apart, fun j hj => ?_, h.classes, h.nodup, h.answers, h.covered,
    (Function.forall_update_iff v.dispatches fun _ l =>
      ∀ id tag m a, Handover.dispatch id tag m a ∈ l → id < v.nextJob).mpr ⟨below, fun at_ _ => h.below at_⟩,
    (Function.forall_update_iff v.dispatches fun _ l => l.length ≤ 1).mpr ⟨single, fun at_ _ => h.single at_⟩⟩
  have old := h.admits j hj
  exact ⟨old.record, old.ordered, old.tagged, old.named, (Function.forall_update_iff v.dispatches fun at_ l =>
    ∀ tag, j.mode = .queued (some (at_, tag)) → ∃ m a, .dispatch j.id tag m a ∈ l).mpr
      ⟨handed j hj, fun at_ _ => old.handed at_⟩⟩

end

end Sys2Proof.Machine
end

section
/-! SUPPORT. The operations on ports, hand-overs and jobs keep the laws of verification. -/

namespace Sys2Proof.Machine

/-! ## A job of the queue changed -/

section
variable {v w : Verification} {j j' : Job}

/-- A job for the record of another, under its name (R103). -/
def Job.Continues (j j' : Job) : Prop := j'.slot = j.slot ∧ j'.key = j.key ∧ j'.id = j.id

theorem Job.Continues.slot (h : j.Continues j') : j'.slot = j.slot := h.1

theorem Job.continues_mode (j : Job) (m : JobMode) : j.Continues { j with mode := m } := ⟨rfl, rfl, rfl⟩

/-- A job that a port neither holds nor is to take: QUEUED without an offer, or ANSWERED. -/
def Job.Rests (j : Job) : Prop := j.mode = .queued none ∨ j.isAnswered = true

theorem Job.Rests.not_inFlight (h : j.Rests) (ix : PortIx) (tag : Tag) (d : Option Stamp) (c : Option CancelReason) :
    j.mode ≠ .inFlight ix tag d c := by
  intro e
  rw [Job.Rests, Job.isAnswered, e] at h
  simp at h

theorem Job.Rests.not_offered (h : j.Rests) (ix : PortIx) (tag : Tag) : j.mode ≠ .queued (some (ix, tag)) := by
  intro e
  rw [Job.Rests, Job.isAnswered, e] at h
  simp at h

theorem Job.Rests.not_flying (h : j.Rests) (ix : PortIx) : j.flyingOn ix ≠ true := by
  rw [Ne, flyingOn_iff]
  rintro ⟨tag, d, c, e⟩
  exact h.not_inFlight ix tag d c e

theorem isAnswered_of_mode {m : JobMode} (h : j.mode = m) (active : ∀ ix tag a, m ≠ .answered ix tag a) :
    j.isAnswered = false := by
  unfold Job.isAnswered
  rw [h]
  cases m
  case answered ix tag a => exact absurd rfl (active ix tag a)
  all_goals rfl

/-- The order of ANSWERED jobs without a slot that is not in it. -/
theorem filter_answered {slot : CSlot} {l : List CSlot} (h : slot ∉ l) : l.filter (fun k => k != slot) = l :=
  List.filter_eq_self.mpr fun k hk => by
    simp only [bne_iff_ne]
    rintro rfl
    exact h hk

/-- The place that the order of ANSWERED jobs gives a job that is neither before nor after a change. -/
theorem Verification.Lawful.answered_unchanged (h : v.Lawful) (queued : j ∈ v.jobs) (same : j.Continues j')
    (before : j.isAnswered = false) (after : j'.isAnswered = false) :
    v.answered = v.answered.filter (fun k => k != j'.slot) ++ if j'.isAnswered then [j'.slot] else [] := by
  have out : j.slot ∉ v.answered := fun hs => by
    rw [(h.admits j queued).ordered.mp hs] at before
    cases before
  rw [same.slot, filter_answered out, after]
  exact (List.append_nil _).symm

/-- A job changed that keeps its record and its name: the laws stay where no other job is IN_FLIGHT on its port, the port
holds its tag, and a dispatch names it where it is offered. -/
theorem Verification.Lawful.revise (h : v.Lawful) (queued : j ∈ v.jobs) (same : j.Continues j') (p : Puts j' v w)
    (suspects : w.suspects = v.suspects)
    (alone : ∀ ix, j'.flyingOn ix = true → ∀ k ∈ v.jobs, k.flyingOn ix = true → k = j)
    (tagged : ∀ ix tag d c, j'.mode = .inFlight ix tag d c → v.tags ix = some tag)
    (handed : ∀ ix tag, j'.mode = .queued (some (ix, tag)) → ∃ m a, .dispatch j'.id tag m a ∈ v.dispatches ix) :
    w.Lawful := by
  have old := h.admits j queued
  obtain ⟨slot, key, id⟩ := same
  refine h.put p (fun k hk other => ?_) ?_ tagged (id ▸ old.named.trans_le p.nextJob) handed
  · have ne : k ≠ j := fun e => other (by rw [e, slot])
    have apart := apart_of_mem h.apart hk queued ne
    exact ⟨other, by rw [id]; exact apart.id, fun ix a b => ne (alone ix b k hk a)⟩
  · rw [suspects, slot, key]
    exact old.record

theorem Verification.Lawful.reviseResting (h : v.Lawful) (queued : j ∈ v.jobs) (same : j.Continues j')
    (p : Puts j' v w) (suspects : w.suspects = v.suspects) (rests : j'.Rests) : w.Lawful :=
  h.revise queued same p suspects (fun ix a => absurd a (rests.not_flying ix))
    (fun ix tag d c e => absurd e (rests.not_inFlight ix tag d c)) (fun ix tag e => absurd e (rests.not_offered ix tag))

/-- A job whose state alone changes in its place. -/
theorem Verification.Lawful.puts_replace (h : v.Lawful) (queued : j ∈ v.jobs) (before : j.isAnswered = false) {m : JobMode}
    (after : ({ j with mode := m } : Job).isAnswered = false) :
    Puts { j with mode := m } v (v.withJobs (replaceJob { j with mode := m } v.jobs)) :=
  ⟨replaceJob_perm (j := j) h.apart queued rfl, h.classes.replaceJob (j := j) h.apart queued rfl rfl,
    h.answered_unchanged queued (j.continues_mode m) before after, fun _ _ => rfl, rfl, rfl, le_rfl⟩

end

/-! ## Ports -/

section
variable {s t : State} {ix : PortIx} {p : Port} {tag : Tag} {j : Job}

theorem setPort_verification (s : State) (ix : PortIx) (p : Port) :
    (s.setPort ix p).verification = s.verification.withTag ix p.outstanding := by
  refine congrArg s.verification.withTags (funext fun i => ?_)
  show ((s.ports.set ix.val p)[i]).outstanding = _
  rw [set_get, Function.update_apply]
  by_cases same : ix = i
  · rw [if_pos same, if_pos same.symm]
  · rw [if_neg same, if_neg (Ne.symm same)]
    rfl

theorem setPort_ready (h : TagsReady s) (ready : p.outstanding ≠ none → p.mode = .ready) :
    TagsReady (s.setPort ix p) := by
  intro i
  show ((s.ports.set ix.val p)[i]).outstanding ≠ none → ((s.ports.set ix.val p)[i]).mode = .ready
  rw [set_get]
  split
  · exact ready
  · exact h i

/-- A port's tag is cleared once no job is IN_FLIGHT on the port (R90, R93). -/
theorem lawful_cleared (h : s.verification.Lawful)
    (idle : ∀ k ∈ s.sched.jobs, ∀ tag d c, k.mode ≠ .inFlight ix tag d c) : (s.setPort ix p).verification.Lawful := by
  rw [setPort_verification]
  exact h.setTag fun k hk tag d c flies => absurd flies (idle k hk tag d c)

/-- Where no job is IN_FLIGHT with the outstanding tag, none is IN_FLIGHT on the port. -/
theorem idle_of_absent (h : s.verification.Lawful) (out : s.ports[ix].outstanding = some tag)
    (absent : s.sched.jobs.find? (Job.inFlightOn ix tag) = none) (k : Job) (hk : k ∈ s.sched.jobs) (u : Tag)
    (d : Option Stamp) (c : Option CancelReason) : k.mode ≠ .inFlight ix u d c := fun flies => by
  have held : s.ports[ix].outstanding = some u := (h.admits k hk).tagged ix u d c flies
  cases out.symm.trans held
  exact List.find?_eq_none.mp absent k hk ((inFlightOn_iff ix tag k).mpr ⟨d, c, flies⟩)

/-- The job IN_FLIGHT with the outstanding tag put to rest, none is IN_FLIGHT on the port. -/
theorem idle_of_put {j' : Job} {w : Verification} (h : s.verification.Lawful) (queued : j ∈ s.sched.jobs)
    (flies : j.inFlightOn ix tag = true) (same : j.Continues j') (put : Puts j' s.verification w) (rests : j'.Rests)
    (k : Job) (hk : k ∈ w.jobs) (u : Tag) (d : Option Stamp) (c : Option CancelReason) :
    k.mode ≠ .inFlight ix u d c := fun other => by
  rcases put.mem.mp hk with rfl | ⟨hk, apart⟩
  · exact rests.not_inFlight ix u d c other
  · obtain ⟨d', c', mode⟩ := (inFlightOn_iff ix tag j).mp flies
    have ne : k ≠ j := fun e => apart (by rw [e, same.slot])
    exact (apart_of_mem h.apart hk queued ne).port ix ((flyingOn_iff ix k).mpr ⟨u, d, c, other⟩)
      ((flyingOn_iff ix j).mpr ⟨tag, d', c', mode⟩)

theorem active_of_inFlightOn (flies : j.inFlightOn ix tag = true) : j.isAnswered = false := by
  obtain ⟨d, c, mode⟩ := (inFlightOn_iff ix tag j).mp flies
  exact isAnswered_of_mode mode nofun

theorem lawful_returned (h : s.verification.Lawful)
    (found : s.sched.jobs.find? (Job.inFlightOn ix tag) = some j) :
    (returnToHead j (s.setPort ix p)).verification.Lawful := by
  have queued : j ∈ s.verification.jobs := List.mem_of_find?_eq_some found
  have flies := List.find?_some found
  have put : Puts { j with mode := .queued none } s.verification (returnToHead j s).verification :=
    ⟨insertHead_perm _ _, (h.classes.withoutJob _).insertHead _,
      h.answered_unchanged queued (j.continues_mode _) (active_of_inFlightOn flies) rfl, fun _ _ => rfl, rfl, rfl, le_rfl⟩
  have rests : ({ j with mode := .queued none } : Job).Rests := .inl rfl
  have lawful : (returnToHead j s).verification.Lawful := h.reviseResting queued (j.continues_mode _) put rfl rests
  exact lawful_cleared (s := returnToHead j s) lawful (idle_of_put h queued flies (j.continues_mode _) put rests)

theorem lawful_answered (h : s.verification.Lawful)
    (found : s.sched.jobs.find? (Job.inFlightOn ix tag) = some j) (a : Answer) :
    (answerJob j ix tag a (s.setPort ix p)).verification.Lawful := by
  have queued : j ∈ s.verification.jobs := List.mem_of_find?_eq_some found
  have flies := List.find?_some found
  have out : j.slot ∉ s.verification.answered := fun hs => by
    have none := active_of_inFlightOn flies
    rw [(h.admits j queued).ordered.mp hs] at none
    cases none
  have put : Puts { j with mode := .answered ix tag a } s.verification (answerJob j ix tag a s).verification :=
    ⟨replaceJob_perm (j := j) h.apart queued rfl, h.classes.replaceJob (j := j) h.apart queued rfl rfl,
      by rw [filter_answered out]; rfl, fun _ _ => rfl, rfl, rfl, le_rfl⟩
  have rests : ({ j with mode := .answered ix tag a } : Job).Rests := .inr rfl
  have lawful : (answerJob j ix tag a s).verification.Lawful := h.reviseResting queued (j.continues_mode _) put rfl rests
  exact lawful_cleared (s := answerJob j ix tag a s) lawful (idle_of_put h queued flies (j.continues_mode _) put rests)

/-! ## The verify scheduler -/

theorem handOver_verification (ix : PortIx) (d : Handover) (s : State) :
    (handOver ix d s).verification =
      s.verification.withDispatches ix (s.verification.dispatches ix ++ [d].filter Handover.isDispatch) := by
  refine congrArg s.verification.withAllDispatches (funext fun i => ?_)
  show ((s.sched.handovers.set ix.val (s.sched.handovers[ix] ++ [d]))[i]).filter _ = _
  rw [set_get, Function.update_apply]
  by_cases same : ix = i
  · rw [if_pos same, if_pos same.symm, List.filter_append]
    rfl
  · rw [if_neg same, if_neg (Ne.symm same)]
    rfl

/-- A cancel request is no dispatch. -/
theorem handOver_cancel_verification (ix : PortIx) (tag : Tag) (s : State) :
    (handOver ix (.cancel tag) s).verification = s.verification := by
  have none : [Handover.cancel tag].filter Handover.isDispatch = [] := rfl
  rw [handOver_verification, none, List.append_nil, Verification.withDispatches_self]

theorem offerJob_verification (ix : PortIx) (j : Job) (s : State) : (offerJob ix j s).verification =
    (s.verification.withDispatches ix (s.verification.dispatches ix ++
      [Handover.dispatch j.id s.sched.tagCounters[ix] j.key.mem
        (granuleAddr s.engine.memories[j.key.mem] j.key.granule)])).withJobs
        (replaceJob { j with mode := .queued (some (ix, s.sched.tagCounters[ix])) } s.sched.jobs) :=
  handOver_verification ix _ _

theorem lawful_offered (h : s.verification.Lawful) (chosen : dispatchJob ix s = some j) :
    (offerJob ix j s).verification.Lawful := by
  obtain ⟨-, free, untaken, queued, waits, -⟩ := dispatchJob_some chosen
  obtain ⟨-, -, unoffered⟩ := portFree_iff.mp free
  have queued : j ∈ s.verification.jobs := queued
  have empty : s.verification.dispatches ix = [] :=
    List.filter_eq_nil_iff.mpr fun d hd is => by
      have some : dispatchUntaken ix s = true := List.any_eq_true.mpr ⟨d, hd, is⟩
      rw [untaken] at some
      cases some
  have handed := h.setDispatches (ix := ix)
    (l := [.dispatch j.id s.sched.tagCounters[ix] j.key.mem
      (granuleAddr s.engine.memories[j.key.mem] j.key.granule)]) le_rfl
    (fun id tag m a mem => by
      cases List.mem_singleton.mp mem
      exact (h.admits j queued).named)
    (fun k hk tag offered => absurd offered (unoffered k hk tag))
  have offered := handed.revise queued (j.continues_mode (.queued (some (ix, s.sched.tagCounters[ix]))))
    (handed.puts_replace queued (isAnswered_of_mode waits nofun) rfl) rfl (fun _ flies => nomatch flies) nofun
    (fun at_ tag mode => by
      cases mode
      exact ⟨_, _, (Function.update_self ix _ s.verification.dispatches).symm.subst (motive := (_ ∈ ·))
        (List.mem_singleton_self _)⟩)
  rw [offerJob_verification, empty]
  exact offered

theorem lawful_cancelled (h : s.verification.Lawful) (queued : j ∈ s.sched.jobs) (reason : CancelReason) :
    (cancelJob j reason s).verification.Lawful := by
  unfold cancelJob
  split
  next port tag d c flies =>
    rw [handOver_cancel_verification]
    have queued : j ∈ s.verification.jobs := queued
    have flying (at_ : PortIx) (on : ({ j with mode := .inFlight port tag none (some reason) } : Job).flyingOn at_ = true) :
        j.flyingOn at_ = true := by
      obtain ⟨u, d', c', mode⟩ := (flyingOn_iff _ _).mp on
      cases mode
      exact (flyingOn_iff _ _).mpr ⟨tag, d, c, flies⟩
    exact h.revise queued (j.continues_mode (.inFlight port tag none (some reason)))
      (h.puts_replace queued (isAnswered_of_mode flies nofun) rfl) rfl
      (fun at_ on k hk also => by_contra fun ne =>
        (apart_of_mem h.apart hk queued ne).port at_ also (flying at_ on))
      (fun at_ u d' c' mode => by
        cases mode
        exact (h.admits j queued).tagged _ _ _ _ flies)
      nofun
  next => exact h

theorem popHandover_verification (ix : PortIx) (s : State) :
    (popHandover ix s).verification =
      s.verification.withDispatches ix (s.sched.handovers[ix].tail.filter Handover.isDispatch) := by
  refine congrArg s.verification.withAllDispatches (funext fun i => ?_)
  show ((s.sched.handovers.set ix.val s.sched.handovers[ix].tail)[i]).filter _ = _
  rw [set_get, Function.update_apply]
  by_cases same : ix = i
  · rw [if_pos same, if_pos same.symm]
  · rw [if_neg same, if_neg (Ne.symm same)]
    rfl

theorem filter_of_head {d : Handover} (head : s.sched.handovers[ix].head? = some d) :
    s.verification.dispatches ix = [d].filter Handover.isDispatch ++ s.sched.handovers[ix].tail.filter Handover.isDispatch := by
  obtain ⟨rest, list⟩ := List.head?_eq_some_iff.mp head
  show s.sched.handovers[ix].filter _ = _
  rw [← List.filter_append, list]
  rfl

theorem popHandover_cancel_verification (head : s.sched.handovers[ix].head? = some (.cancel tag)) :
    (popHandover ix s).verification = s.verification := by
  have same := filter_of_head head
  rw [popHandover_verification]
  rw [List.filter_singleton] at same
  have same : s.sched.handovers[ix].tail.filter Handover.isDispatch = s.verification.dispatches ix := same.symm
  rw [same, Verification.withDispatches_self]

section
variable {id : Nat} {m : MemId} {a : BitVec 32}

/-- A dispatch at the head is the one dispatch of the port (R108). -/
theorem dispatches_of_head (h : s.verification.Lawful) (head : s.sched.handovers[ix].head? = some (.dispatch id tag m a)) :
    s.verification.dispatches ix = [.dispatch id tag m a] ∧ s.sched.handovers[ix].tail.filter Handover.isDispatch = [] := by
  have list : s.verification.dispatches ix = .dispatch id tag m a :: s.sched.handovers[ix].tail.filter Handover.isDispatch :=
    filter_of_head head
  have single := h.single ix
  rw [list, List.length_cons] at single
  have empty := List.length_eq_zero_iff.mp (Nat.le_zero.mp (Nat.le_of_succ_le_succ single))
  rw [empty] at list
  exact ⟨list, empty⟩

/-- A job offered to a port is the one that the port's dispatch names (R108, R110). -/
theorem offered_named {v : Verification} (h : v.Lawful) (one : v.dispatches ix = [.dispatch id tag m a]) {k : Job}
    (hk : k ∈ v.jobs) {u : Tag} (offered : k.mode = .queued (some (ix, u))) : k.offeredAs id ix tag = true := by
  obtain ⟨m', a', mem⟩ := (h.admits k hk).handed ix u offered
  rw [one] at mem
  cases List.mem_singleton.mp mem
  exact (offeredAs_iff _ _ _ _).mpr ⟨rfl, offered⟩

/-- The dispatch of a port taken off its list, once the job that it names is no longer offered. -/
theorem lawful_taken {v w : Verification} {j' : Job} (h : v.Lawful) (one : v.dispatches ix = [.dispatch id tag m a])
    (queued : j ∈ v.jobs) (named : j.offeredAs id ix tag = true) (same : j.Continues j') (put : Puts j' v w)
    (unoffered : ∀ u, j'.mode ≠ .queued (some (ix, u))) (lawful : w.Lawful) :
    (w.withDispatches ix []).Lawful := by
  refine lawful.setDispatches (Nat.zero_le _) nofun fun k hk u offered => ?_
  rcases put.mem.mp hk with rfl | ⟨hk, other⟩
  · exact absurd offered (unoffered u)
  · obtain ⟨idk, -⟩ := (offeredAs_iff _ _ _ _).mp (offered_named h one hk offered)
    obtain ⟨idj, -⟩ := (offeredAs_iff _ _ _ _).mp named
    have ne : k ≠ j := fun e => other (by rw [e, same.slot])
    exact absurd (idk.trans idj.symm) (apart_of_mem h.apart hk queued ne).id

theorem lawful_taken_absent {v : Verification} (h : v.Lawful) (one : v.dispatches ix = [.dispatch id tag m a])
    (absent : v.jobs.find? (Job.offeredAs id ix tag) = none) :
    (v.withDispatches ix []).Lawful :=
  h.setDispatches (Nat.zero_le _) nofun fun k hk _ offered =>
    absurd (offered_named h one hk offered) (List.find?_eq_none.mp absent k hk)

theorem active_of_offeredAs (named : j.offeredAs id ix tag = true) : j.isAnswered = false := by
  obtain ⟨-, mode⟩ := (offeredAs_iff _ _ _ _).mp named
  exact isAnswered_of_mode mode nofun

theorem lawful_refused (h : s.verification.Lawful) (head : s.sched.handovers[ix].head? = some (.dispatch id tag m a)) :
    (refuseOffer id ix tag (popHandover ix s)).verification.Lawful := by
  obtain ⟨one, empty⟩ := dispatches_of_head h head
  have popped := popHandover_verification ix s
  rw [empty] at popped
  unfold refuseOffer
  split
  next j found =>
    have queued : j ∈ s.verification.jobs := List.mem_of_find?_eq_some found
    have named := List.find?_some found
    have put := h.puts_replace queued (active_of_offeredAs named) (m := .queued none) rfl
    have lawful := h.reviseResting queued (j.continues_mode _) put rfl (.inl rfl)
    have taken := lawful_taken h one queued named (j.continues_mode _) put nofun lawful
    exact (congrArg (fun v : Verification =>
      (v.withJobs (replaceJob { j with mode := .queued none } s.sched.jobs)).Lawful) popped).mpr taken
  next absent =>
    rw [popped]
    exact lawful_taken_absent h one absent

theorem lawful_flown (h : s.verification.Lawful) (head : s.sched.handovers[ix].head? = some (.dispatch id tag m a))
    (free : s.ports[ix].outstanding = none) (holds : p.outstanding = some tag) :
    (flyJob id ix tag ((popHandover ix s).setPort ix p)).verification.Lawful := by
  obtain ⟨one, empty⟩ := dispatches_of_head h head
  have idle (k : Job) (hk : k ∈ s.verification.jobs) (u : Tag) (d : Option Stamp) (c : Option CancelReason) :
      k.mode ≠ .inFlight ix u d c := fun flies =>
    nomatch free.symm.trans ((h.admits k hk).tagged ix u d c flies)
  have tagged := h.setTag (ix := ix) (o := some tag) fun k hk u d c flies => absurd flies (idle k hk u d c)
  have popped := setPort_verification (popHandover ix s) ix p
  rw [popHandover_verification, empty, holds] at popped
  unfold flyJob
  split
  next j found =>
    have queued : j ∈ s.verification.jobs := List.mem_of_find?_eq_some found
    have named := List.find?_some found
    have put := tagged.puts_replace queued (active_of_offeredAs named)
      (m := .inFlight ix tag (some (armed s.time.stamp s.win.settings.verifyTimeout)) none) rfl
    have lawful := tagged.revise queued (j.continues_mode _) put rfl
      (fun at_ on k hk also => by
        obtain ⟨u, d, c, mode⟩ := (flyingOn_iff _ _).mp on
        cases mode
        obtain ⟨u, d, c, mode⟩ := (flyingOn_iff _ _).mp also
        exact absurd mode (idle k hk u d c))
      (fun at_ u d c mode => by
        cases mode
        exact Function.update_self ..)
      nofun
    have taken := lawful_taken tagged one queued named (j.continues_mode _) put nofun lawful
    exact (congrArg (fun v : Verification => (v.withJobs (replaceJob { j with
      mode := .inFlight ix tag (some (armed s.time.stamp s.win.settings.verifyTimeout)) none } s.sched.jobs)).Lawful)
        popped).mpr taken
  next absent =>
    rw [popped]
    exact lawful_taken_absent tagged one absent

end

/-! ## Jobs that enter, go on and end -/

/-- The verify queue has no job for a record that is not SUSPECT (R104). -/
theorem no_job_of_free (h : s.verification.Lawful) {slot : CSlot} (free : s.verification.suspects slot = none) (k : Job)
    (hk : k ∈ s.sched.jobs) : k.slot ≠ slot := by
  rintro rfl
  exact nomatch free.symm.trans (h.admits k hk).record

theorem enterJob_verification (slot : CSlot) (r : CRecord) (cls : JobClass) (s : State) :
    (enterJob slot r cls s).verification =
      (insertTail (.new s.sched.nextJob slot r.core.key cls) s.sched.jobs, s.sched.answered, s.sched.nextJob + 1,
        (s.verification.withSuspect slot (some r.core.key)).2.2.2) :=
  congrArg (fun v : Verification => (insertTail (.new s.sched.nextJob slot r.core.key cls) s.sched.jobs, s.sched.answered,
    s.sched.nextJob + 1, v.2.2.2)) (putC_verification slot { r with mode := .suspect } s)

theorem lawful_entered (h : s.verification.Lawful) {slot : CSlot} (free : s.verification.suspects slot = none)
    (r : CRecord) (cls : JobClass) : (enterJob slot r cls s).verification.Lawful := by
  have none := no_job_of_free h free
  have alone : withoutJob slot s.verification.jobs = s.verification.jobs :=
    List.filter_eq_self.mpr fun k hk => by simpa using none k hk
  have unanswered : slot ∉ s.verification.answered := fun hs => by
    obtain ⟨k, hk, same⟩ := h.answers slot hs
    exact none k hk same
  have put : Puts (.new s.sched.nextJob slot r.core.key cls) s.verification (enterJob slot r cls s).verification := by
    rw [enterJob_verification]
    refine ⟨?_, h.classes.insertTail _, ?_, fun i other => Function.update_of_ne other _ _, rfl, rfl, Nat.le_succ _⟩
    · show (insertTail _ _).Perm (_ :: withoutJob slot s.verification.jobs)
      rw [alone]
      exact insertTail_perm _ _
    · show s.verification.answered = s.verification.answered.filter (fun k => k != slot) ++ []
      rw [filter_answered unanswered, List.append_nil]
  refine h.put put (fun k hk other => ⟨other, (h.admits k hk).named.ne, fun _ _ flies => nomatch flies⟩) ?_ nofun ?_ nofun
  · rw [enterJob_verification]
    exact Function.update_self ..
  · rw [enterJob_verification]
    exact Nat.lt_succ_self _

theorem mem_of_jobFor {slot : CSlot} (found : jobFor slot s.sched.jobs = some j) :
    j ∈ s.verification.jobs ∧ j.slot = slot :=
  ⟨List.mem_of_find?_eq_some found, by simpa using List.find?_some found⟩

theorem lawful_requeued (h : s.verification.Lawful) {slot : CSlot} (found : jobFor slot s.sched.jobs = some j)
    (n : BitVec 3) :
    ((removeJob slot s).setJobs
      (insertTail { j with attempts := n, mode := .queued none } (removeJob slot s).sched.jobs)).verification.Lawful := by
  obtain ⟨queued, rfl⟩ := mem_of_jobFor found
  have same : j.Continues { j with attempts := n, mode := .queued none } := ⟨rfl, rfl, rfl⟩
  exact h.reviseResting queued same
    ⟨insertTail_perm _ _, (h.classes.withoutJob _).insertTail _, (List.append_nil _).symm, fun _ _ => rfl, rfl, rfl, le_rfl⟩
    rfl (.inl rfl)

theorem lawful_raised (h : s.verification.Lawful) {slot : CSlot} (found : jobFor slot s.sched.jobs = some j)
    {offer : Option (PortIx × Tag)} (mode : j.mode = .queued offer) : (raiseJob j s).verification.Lawful := by
  obtain ⟨queued, -⟩ := mem_of_jobFor found
  have waits : ({ j with cls := .urgent } : Job).mode = .queued offer := mode
  have same : j.Continues { j with cls := .urgent } := ⟨rfl, rfl, rfl⟩
  have put : Puts { j with cls := .urgent } s.verification (raiseJob j s).verification :=
    ⟨insertTail_perm { j with cls := .urgent } (withoutJob j.slot s.sched.jobs),
      (h.classes.withoutJob j.slot).insertTail { j with cls := .urgent },
      h.answered_unchanged queued same (isAnswered_of_mode mode nofun) (isAnswered_of_mode waits nofun), fun _ _ => rfl, rfl,
      rfl, le_rfl⟩
  refine h.revise queued same put rfl (fun ix on => ?_) (fun ix tag d c flies => nomatch waits.symm.trans flies)
    (h.admits j queued).handed
  obtain ⟨u, d, c, flies⟩ := (flyingOn_iff _ _).mp on
  exact nomatch waits.symm.trans flies

theorem lawful_finished (h : s.verification.Lawful) (slot : CSlot) {r : CRecord} (judged : r.mode ≠ .suspect) :
    ((removeJob slot s).putC slot r).verification.Lawful := by
  rw [putC_verification, suspectKey_none judged]
  exact h.without slot

theorem withdrawalHandover_verification (m : JobMode) (s : State) :
    (withdrawalHandover m s).verification = s.verification := by
  unfold withdrawalHandover
  split
  · exact handOver_cancel_verification _ _ s
  · exact handOver_cancel_verification _ _ s
  all_goals rfl

theorem lawful_removed (h : s.verification.Lawful) (slot : CSlot) (r : CRecord) :
    (removeC slot r s).verification.Lawful := by
  have without : (removeJob slot (s.freedC slot r)).verification = s.verification.without slot :=
    congrArg (fun v : Verification => (withoutJob slot v.jobs, v.answered.filter fun k => k != slot, v.2.2))
      (freedC_verification slot r s)
  rw [removeC_eq]
  unfold withdraw
  split
  · rw [withdrawalHandover_verification, without]
    exact h.without slot
  next absent =>
    have none (k : Job) (hk : k ∈ s.verification.jobs) : k.slot ≠ slot := by
      simpa using List.find?_eq_none.mp absent k hk
    have unanswered : slot ∉ s.verification.answered := fun hs => by
      obtain ⟨k, hk, same⟩ := h.answers slot hs
      exact none k hk same
    have alone : withoutJob slot s.verification.jobs = s.verification.jobs :=
      List.filter_eq_self.mpr fun k hk => by simpa using none k hk
    have lawful := h.without slot
    rw [Verification.without, alone, filter_answered unanswered] at lawful
    rw [freedC_verification]
    exact lawful

/-- With no job queued and no SUSPECT record the laws ask only for the dispatches. -/
theorem lawful_emptied (h : s.verification.Lawful) : (withdrawAll s).emptied.verification.Lawful := by
  obtain ⟨slots, -⟩ := pairwise_apart_iff.mp h.apart
  have withdrawn : withdrawAll s = s.queueCleared s.sched.jobs := foldl_withdraw rfl slots h.answers
  have dispatches : (s.queueCleared s.sched.jobs).verification.dispatches = s.verification.dispatches := funext fun ix => by
    show (((s.queueCleared s.sched.jobs).sched.handovers)[ix]).filter _ = s.sched.handovers[ix].filter _
    rw [State.queueCleared, State.withCancels, ofFn_get, List.filter_append]
    refine (congrArg (_ ++ ·) (List.filter_eq_nil_iff.mpr fun d hd => ?_)).trans (List.append_nil _)
    obtain ⟨tag, -, rfl⟩ := List.mem_map.mp hd
    nofun
  have none (slot : CSlot) : (withdrawAll s).emptied.verification.suspects slot = none := by
    show ((Vector.replicate 32 none)[slot]).bind _ = none
    simp
  rw [withdrawn] at none ⊢
  refine ⟨.nil, nofun, ⟨[], [], rfl, nofun, nofun⟩, .nil, nofun, fun slot key e => ?_, ?_, ?_⟩
  · cases (none slot).symm.trans e
  · intro ix
    show ∀ id tag m a, _ ∈ (s.queueCleared s.sched.jobs).verification.dispatches ix → _
    rw [dispatches]
    exact h.below ix
  · intro ix
    show ((s.queueCleared s.sched.jobs).verification.dispatches ix).length ≤ 1
    rw [dispatches]
    exact h.single ix

/-! ## Withdrawals and LOST notices -/

theorem withdrawAll_ports (s : State) : (withdrawAll s).ports = s.ports :=
  List.foldlRecOn (motive := fun t : State => t.ports = s.ports) _ _ rfl
    fun t same slot _ => (withdraw_ports slot t).trans same

theorem postLost_verification (s : State) : (postLost s).verification = s.verification ∧ (postLost s).ports = s.ports := by
  unfold postLost
  split <;> exact ⟨rfl, rfl⟩

end

end Sys2Proof.Machine
end

section
/-! SUPPORT. The capacities of the queues and the numbering of notices (R87, R104, R128, R139). -/

namespace Sys2Proof.Machine

section
variable {s t : State}

/-! ## The ports' queues -/

/-- The number of reports in a port's queue has not risen, or not above 4 (R87). -/
def Port.QueueFrom (p q : Port) : Prop := q.queue.length ≤ max 4 p.queue.length

/-- No port's queue holds more than 4 reports (R87). -/
def PortsBounded (s : State) : Prop := ∀ ix : PortIx, s.ports[ix].queue.length ≤ 4

theorem PortsBounded.congr (h : PortsBounded s) (ports : t.ports = s.ports) : PortsBounded t := fun ix => by
  rw [ports]
  exact h ix

theorem PortsBounded.setPort (h : PortsBounded s) {ix : PortIx} {p : Port} (queue : s.ports[ix].QueueFrom p) :
    PortsBounded (s.setPort ix p) := fun i => by
  show (s.ports.set ix.val p)[i].queue.length ≤ 4
  rw [set_get]
  split
  · exact queue.trans (max_le le_rfl (h ix))
  · exact h i

/-! ## The verify queue -/

theorem insertTail_length (j : Job) (q : List Job) : (insertTail j q).length = q.length + 1 := (insertTail_perm j q).length_eq

theorem insertHead_length (j : Job) (q : List Job) : (insertHead j q).length = q.length + 1 := (insertHead_perm j q).length_eq

theorem replaceJob_length (j : Job) (q : List Job) : (replaceJob j q).length = q.length := List.length_map ..

theorem withoutJob_length_le (slot : CSlot) (q : List Job) : (withoutJob slot q).length ≤ q.length := List.length_filter_le _ _

/-- A job of the queue leaves room for itself. -/
theorem withoutJob_length_lt {j : Job} {q : List Job} (queued : j ∈ q) : (withoutJob j.slot q).length < q.length :=
  List.length_filter_lt_length_iff_exists.mpr ⟨j, queued, by simp⟩

theorem withdrawalHandover_jobs (m : JobMode) (s : State) : (withdrawalHandover m s).sched.jobs = s.sched.jobs := by
  unfold withdrawalHandover
  split <;> rfl

theorem withdraw_jobs_length_le (slot : CSlot) (s : State) : (withdraw slot s).sched.jobs.length ≤ s.sched.jobs.length := by
  unfold withdraw
  split
  · rw [withdrawalHandover_jobs]
    exact withoutJob_length_le slot _
  · exact le_rfl

theorem withdrawAll_jobs_length_le (s : State) : (withdrawAll s).sched.jobs.length ≤ s.sched.jobs.length :=
  List.foldlRecOn (motive := fun t : State => t.sched.jobs.length ≤ s.sched.jobs.length) _ _ le_rfl
    fun t bound slot _ => (withdraw_jobs_length_le slot t).trans bound

/-! ## The notice queue -/

/-- The escalation unit is not CLEAR once it has taken a cause (R145). -/
theorem takeCause_mode (kind : CauseKind) (seq : Option Word) (key : Option Key) (s : State) :
    (takeCause kind seq key s).esc.mode ≠ .clear := by
  unfold takeCause
  dsimp only
  split
  · nofun
  · nofun
  next pending => rw [pending]; nofun

/-- At most 16 notices, numbered consecutively, the expired ones outside CLEAR (R128, R139). -/
def NoticesKept (s : State) : Prop := s.notices.entries.length ≤ 16 ∧ NoticesLawful s

/-- What keeps the queue and the next number, and enters CLEAR from CLEAR only, keeps the laws of the notices. -/
theorem NoticesKept.congr (h : NoticesKept s) (entries : t.notices.entries = s.notices.entries)
    (nextSeq : t.notices.nextSeq = s.notices.nextSeq) (clear : t.esc.mode = .clear → s.esc.mode = .clear) :
    NoticesKept t := by
  obtain ⟨bound, numbered, expired⟩ := h
  unfold NoticesKept NoticesLawful NoticesNumbered ExpiredEscalated
  rw [entries, nextSeq]
  exact ⟨bound, numbered, fun n mem on now => expired n mem on (clear now)⟩

theorem NoticesKept.of_eq (h : NoticesKept s) (notices : t.notices = s.notices) (esc : t.esc = s.esc) : NoticesKept t :=
  h.congr (by rw [notices]) (by rw [notices]) (by rw [esc]; exact id)

/-- A notice that enters takes the next number and has not expired (R128). -/
theorem NoticesKept.enter (h : NoticesKept s) (room : s.notices.entries.length < 16) (body : NoticeBody) (dated : Bool) :
    NoticesKept (enterNotice body dated s) := by
  obtain ⟨-, numbered, expired⟩ := h
  refine ⟨by simpa [enterNotice] using room, fun k bound => ?_, fun n mem on => ?_⟩
  · simp only [enterNotice, State.setNotices, List.length_append, List.length_singleton] at bound ⊢
    rcases Nat.lt_succ_iff_lt_or_eq.mp bound with old | rfl
    · rw [List.getElem_append_left old, numbered k old, Nat.sub_add_comm old.le, BitVec.ofNat_add]
      exact (add_sub_add_right_eq_sub _ _ _).symm
    · simp [noticeAt]
  · rcases List.mem_append.mp mem with old | new
    · exact expired n old on
    · cases List.mem_singleton.mp new
      cases on

/-- The head notice leaves (R134). -/
theorem NoticesKept.drop (h : NoticesKept s) {n : Notice} {rest : List Notice} (head : s.notices.entries = n :: rest) :
    NoticesKept (s.setNotices { s.notices with entries := rest }) ∧ rest.length < 16 := by
  obtain ⟨bound, numbered, expired⟩ := h
  unfold NoticesNumbered at numbered
  unfold ExpiredEscalated at expired
  simp only [head, List.length_cons] at bound numbered
  refine ⟨⟨Nat.le_of_succ_le bound, fun k within => ?_, fun m mem => expired m (head ▸ List.mem_cons_of_mem n mem)⟩, bound⟩
  have shifted := numbered (k + 1) (Nat.succ_lt_succ within)
  rwa [List.getElem_cons_succ, Nat.add_sub_add_right] at shifted

theorem NoticesKept.postLost (h : NoticesKept s) (room : s.notices.entries.length < 16) : NoticesKept (postLost s) := by
  unfold Machine.postLost
  split
  · exact h
  · exact (h.congr rfl rfl id : NoticesKept (s.setNotices { s.notices with lost := 0 })).enter room _ _

/-- An expired notice keeps its place and its number, and its cause takes the escalation unit out of CLEAR (R137, R145). -/
theorem NoticesKept.expire (h : NoticesKept s) (seq : Word) (key : Option Key) :
    NoticesKept (takeCause .deadline (some seq) key (expireNotice seq s)) := by
  obtain ⟨bound, numbered, -⟩ := h
  refine ⟨?_, ?_, fun _ _ _ => takeCause_mode _ _ _ _⟩
  · rw [takeCause_notices]
    exact (List.length_map ..).trans_le bound
  · rw [takeCause_notices]
    intro k within
    simp only [expireNotice, State.setNotices, List.length_map, List.getElem_map] at within ⊢
    rw [← numbered k within]
    split <;> rfl

theorem NoticesKept.post (h : NoticesKept s) (body : NoticeBody) (dated : Bool) : NoticesKept (post body dated s) := by
  unfold Machine.post
  split
  next room => exact h.enter ((noticeRoom_iff s).mp room) _ _
  next =>
    split
    · exact (h.congr rfl rfl id : NoticesKept (loseNotice s)).congr (by rw [takeCause_notices]) (by rw [takeCause_notices])
        fun clear => absurd clear (takeCause_mode _ _ _ _)
    · exact h.congr rfl rfl id

theorem withdrawAll_notices (s : State) : (withdrawAll s).notices = s.notices :=
  List.foldlRecOn (motive := fun t : State => t.notices = s.notices) _ _ rfl
    fun t same slot _ => (withdraw_notices slot t).trans same

end

end Sys2Proof.Machine
end

section
/-! SUPPORT. Changes that keep the laws of verification and the laws of the queues: one rule for each change of the traffic
state (ports, verify scheduler, notices, escalation unit), with what the part has checked before it makes it. -/

namespace Sys2Proof.Machine

section
variable {s t u : State}

/-- The queues within their capacities, the notices lawful (R87, R104, R128, R139). -/
def QueuesKept (s : State) : Prop := PortsBounded s ∧ s.sched.jobs.length ≤ 8 ∧ NoticesKept s

theorem queuesKept_iff : QueuesKept s ↔ QueuesBounded s ∧ NoticesLawful s :=
  ⟨fun ⟨ports, jobs, bound, lawful⟩ => ⟨⟨ports, jobs, bound⟩, lawful⟩,
    fun ⟨⟨ports, jobs, bound⟩, lawful⟩ => ⟨ports, jobs, bound, lawful⟩⟩

/-- A change of the state that keeps the laws of verification, and the laws of the queues whether those hold or not. -/
def Keeps (s t : State) : Prop :=
  (s.verification.Lawful ∧ TagsReady s → t.verification.Lawful ∧ TagsReady t) ∧ (QueuesKept s → QueuesKept t)

theorem Keeps.refl : Keeps s s := ⟨id, id⟩

theorem Keeps.trans (a : Keeps s t) (b : Keeps t u) : Keeps s u := ⟨b.1 ∘ a.1, b.2 ∘ a.2⟩

/-! ## What a change leaves, and what it owes -/

/-- A change that leaves the ports: it owes the laws of verification, the number of jobs and the laws of the notices. -/
theorem Keeps.of_ports (ports : t.ports = s.ports) (lawful : s.verification.Lawful → t.verification.Lawful)
    (length : s.sched.jobs.length ≤ 8 → t.sched.jobs.length ≤ 8) (notices : NoticesKept s → NoticesKept t) : Keeps s t :=
  ⟨fun ⟨h, ready⟩ => ⟨lawful h, fun ix => by rw [ports]; exact ready ix⟩,
    fun ⟨bounded, jobs, kept⟩ => ⟨bounded.congr ports, length jobs, notices kept⟩⟩

/-- A change of the jobs and hand-overs alone. -/
theorem Keeps.of_jobs (lawful : s.verification.Lawful → t.verification.Lawful)
    (length : s.sched.jobs.length ≤ 8 → t.sched.jobs.length ≤ 8) (ports : t.ports = s.ports)
    (notices : t.notices = s.notices) (esc : t.esc = s.esc) : Keeps s t :=
  .of_ports ports lawful length fun kept => kept.of_eq notices esc

/-- A change of the notices alone. -/
theorem Keeps.of_notices (verification : t.verification = s.verification) (ports : t.ports = s.ports)
    (notices : NoticesKept s → NoticesKept t) : Keeps s t :=
  .of_ports ports (fun h => verification ▸ h)
    (fun jobs => (congrArg (fun v : Verification => v.jobs.length) verification).trans_le jobs) notices

/-- A change that the laws do not speak of, but that the escalation unit may have left CLEAR. -/
theorem Keeps.same (verification : t.verification = s.verification) (ports : t.ports = s.ports)
    (entries : t.notices.entries = s.notices.entries) (nextSeq : t.notices.nextSeq = s.notices.nextSeq)
    (clear : t.esc.mode = .clear → s.esc.mode = .clear) : Keeps s t :=
  .of_notices verification ports fun kept => kept.congr entries nextSeq clear

theorem Keeps.of_cTable (cTable : t.engine.cTable = s.engine.cTable) (ports : t.ports = s.ports) (sched : t.sched = s.sched)
    (notices : t.notices = s.notices) (esc : t.esc = s.esc) : Keeps s t :=
  .of_notices (verification_congr sched cTable ports) ports fun kept => kept.of_eq notices esc

/-- A change of one port, with the jobs that go with it. -/
theorem Keeps.of_port {ix : PortIx} {p : Port} (ports : t.ports = (s.setPort ix p).ports)
    (lawful : s.verification.Lawful → t.verification.Lawful)
    (ready : TagsReady s → p.outstanding ≠ none → p.mode = .ready) (queue : s.ports[ix].QueueFrom p)
    (length : s.sched.jobs.length ≤ 8 → t.sched.jobs.length ≤ 8) (notices : t.notices = s.notices) (esc : t.esc = s.esc) :
    Keeps s t :=
  ⟨fun ⟨h, tags⟩ => ⟨lawful h, fun i => by rw [ports]; exact setPort_ready tags (ready tags) i⟩,
    fun ⟨bounded, jobs, kept⟩ => ⟨(bounded.setPort queue).congr ports, length jobs, kept.of_eq notices esc⟩⟩

/-! ## Ports -/

section
variable {ix : PortIx} {p : Port} {tag : Tag} {j : Job}

/-- A port changes but for its tag; it leaves READY only with no tag outstanding (R90). -/
theorem Keeps.port (tag : p.outstanding = s.ports[ix].outstanding)
    (ready : s.ports[ix].mode = .ready → p.outstanding ≠ none → p.mode = .ready) (queue : s.ports[ix].QueueFrom p) :
    Keeps s (s.setPort ix p) := by
  refine .of_port rfl (fun h => ?_) (fun tags some => ready (tags ix (tag ▸ some)) some) queue id rfl rfl
  have kept : p.outstanding = s.verification.tags ix := tag
  rwa [setPort_verification, kept, Verification.withTag_self]

theorem ready_of_cleared (cleared : p.outstanding = none) : p.outstanding ≠ none → p.mode = .ready :=
  fun some => absurd cleared some

/-- A port's tag is cleared, and no job is IN_FLIGHT with it (R95, R109). -/
theorem Keeps.freed (out : s.ports[ix].outstanding = some tag) (cleared : p.outstanding = none)
    (queue : s.ports[ix].QueueFrom p) (absent : s.sched.jobs.find? (Job.inFlightOn ix tag) = none) :
    Keeps s (s.setPort ix p) :=
  .of_port rfl (fun h => lawful_cleared h (idle_of_absent h out absent)) (fun _ => ready_of_cleared cleared) queue id rfl rfl

/-- A port's tag is cleared, and the job IN_FLIGHT with it returns to the head of its class (R95, R113). -/
theorem Keeps.returned (cleared : p.outstanding = none) (queue : s.ports[ix].QueueFrom p)
    (found : s.sched.jobs.find? (Job.inFlightOn ix tag) = some j) : Keeps s (returnToHead j (s.setPort ix p)) := by
  refine .of_port rfl (fun h => lawful_returned h found) (fun _ => ready_of_cleared cleared) queue (fun bound => ?_) rfl rfl
  exact ((insertHead_length _ _).trans_le (withoutJob_length_lt (List.mem_of_find?_eq_some found))).trans bound

/-- A port's tag is cleared, and the job IN_FLIGHT with it becomes ANSWERED (R111, R113). -/
theorem Keeps.answered (cleared : p.outstanding = none) (queue : s.ports[ix].QueueFrom p)
    (found : s.sched.jobs.find? (Job.inFlightOn ix tag) = some j) (a : Answer) :
    Keeps s (answerJob j ix tag a (s.setPort ix p)) :=
  .of_port rfl (fun h => lawful_answered h found a) (fun _ => ready_of_cleared cleared) queue
    (replaceJob_length _ _).trans_le rfl rfl

/-! ## Hand-overs -/

/-- A job is offered to a port (R108). -/
theorem Keeps.offered (chosen : dispatchJob ix s = some j) : Keeps s (offerJob ix j s) :=
  .of_jobs (fun h => lawful_offered h chosen) (replaceJob_length _ _).trans_le rfl rfl rfl

theorem cancelJob_leaves (j : Job) (reason : CancelReason) (s : State) : (cancelJob j reason s).ports = s.ports ∧
    (cancelJob j reason s).notices = s.notices ∧ (cancelJob j reason s).esc = s.esc ∧
      (cancelJob j reason s).sched.jobs.length = s.sched.jobs.length := by
  unfold cancelJob
  split
  · exact ⟨rfl, rfl, rfl, replaceJob_length _ _⟩
  · exact ⟨rfl, rfl, rfl, rfl⟩

/-- A cancel of a job is requested (R112, R114). -/
theorem Keeps.cancelled (queued : j ∈ s.sched.jobs) (reason : CancelReason) : Keeps s (cancelJob j reason s) :=
  have ⟨ports, notices, esc, length⟩ := cancelJob_leaves j reason s
  .of_jobs (fun h => lawful_cancelled h queued reason) length.trans_le ports notices esc

section
variable {id : Nat} {m : MemId} {a : BitVec 32}

theorem flyJob_leaves (id : Nat) (ix : PortIx) (tag : Tag) (s : State) : (flyJob id ix tag s).ports = s.ports ∧
    (flyJob id ix tag s).notices = s.notices ∧ (flyJob id ix tag s).esc = s.esc ∧
      (flyJob id ix tag s).sched.jobs.length = s.sched.jobs.length := by
  unfold flyJob
  split
  · exact ⟨rfl, rfl, rfl, replaceJob_length _ _⟩
  · exact ⟨rfl, rfl, rfl, rfl⟩

/-- A port takes a dispatch (R93, R109). -/
theorem Keeps.flown (head : s.sched.handovers[ix].head? = some (.dispatch id tag m a))
    (free : s.ports[ix].outstanding = none) (holds : p.outstanding = some tag) (ready : p.mode = .ready)
    (queue : s.ports[ix].QueueFrom p) : Keeps s (flyJob id ix tag ((popHandover ix s).setPort ix p)) :=
  have ⟨ports, notices, esc, length⟩ := flyJob_leaves id ix tag ((popHandover ix s).setPort ix p)
  .of_port ports (fun h => lawful_flown h head free holds) (fun _ _ => ready) queue length.trans_le notices esc

theorem refuseOffer_leaves (id : Nat) (ix : PortIx) (tag : Tag) (s : State) : (refuseOffer id ix tag s).ports = s.ports ∧
    (refuseOffer id ix tag s).notices = s.notices ∧ (refuseOffer id ix tag s).esc = s.esc ∧
      (refuseOffer id ix tag s).sched.jobs.length = s.sched.jobs.length := by
  unfold refuseOffer
  split
  · exact ⟨rfl, rfl, rfl, replaceJob_length _ _⟩
  · exact ⟨rfl, rfl, rfl, rfl⟩

/-- A port refuses a dispatch (R109). -/
theorem Keeps.refused (head : s.sched.handovers[ix].head? = some (.dispatch id tag m a)) :
    Keeps s (refuseOffer id ix tag (popHandover ix s)) :=
  have ⟨ports, notices, esc, length⟩ := refuseOffer_leaves id ix tag (popHandover ix s)
  .of_jobs (fun h => lawful_refused h head) length.trans_le ports notices esc

end

/-- A port takes a cancel request off its list (R110). -/
theorem Keeps.popped (head : s.sched.handovers[ix].head? = some (.cancel tag)) : Keeps s (popHandover ix s) :=
  .of_jobs (fun h => popHandover_cancel_verification head ▸ h) id rfl rfl rfl

end

/-! ## Jobs -/

section
variable {slot : CSlot} {r : CRecord} {j : Job}

/-- A job enters for a record that was not SUSPECT, where the queue has room (R104, R106). -/
theorem Keeps.entered (free : s.verification.suspects slot = none) (room : s.sched.jobs.length < 8) (cls : JobClass) :
    Keeps s (enterJob slot r cls s) :=
  .of_jobs (fun h => lawful_entered h free r cls) (fun _ => (insertTail_length _ _).trans_le room) rfl rfl rfl

/-- A job goes to the tail of its class again (R120). -/
theorem Keeps.requeued (found : jobFor slot s.sched.jobs = some j) (n : BitVec 3) :
    Keeps s ((removeJob slot s).setJobs
      (insertTail { j with attempts := n, mode := .queued none } (removeJob slot s).sched.jobs)) := by
  refine .of_jobs (fun h => lawful_requeued h found n) (fun bound => ?_) rfl rfl rfl
  obtain ⟨queued, rfl⟩ := mem_of_jobFor found
  exact ((insertTail_length _ _).trans_le (withoutJob_length_lt queued)).trans bound

/-- A QUEUED job goes to the tail of the URGENT class (R122). -/
theorem Keeps.raised {offer : Option (PortIx × Tag)} (found : jobFor slot s.sched.jobs = some j)
    (queued : j.mode = .queued offer) : Keeps s (raiseJob j s) := by
  refine .of_jobs (fun h => lawful_raised h found queued) (fun bound => ?_) rfl rfl rfl
  obtain ⟨mem, -⟩ := mem_of_jobFor found
  exact ((insertTail_length { j with cls := .urgent } _).trans_le (withoutJob_length_lt mem)).trans bound

/-- A job ends with the judgement of its record (R118 to R120). -/
theorem Keeps.finished (judged : r.mode ≠ .suspect) : Keeps s ((removeJob slot s).putC slot r) :=
  .of_jobs (fun h => lawful_finished h slot judged) (withoutJob_length_le slot _).trans rfl rfl rfl

/-- A record leaves its slot, and its job is withdrawn (R18, R121). -/
theorem Keeps.removed (slot : CSlot) (r : CRecord) (s : State) : Keeps s (removeC slot r s) := by
  refine .of_jobs (fun h => lawful_removed h slot r) (fun bound => ?_) ?_ (removeC_notices slot r s) (removeC_esc slot r s)
  · rw [removeC_eq]
    exact (withdraw_jobs_length_le slot _).trans bound
  · rw [removeC_eq, withdraw_ports]
    rfl

/-- All jobs are withdrawn and both tables cleared (R31). -/
theorem Keeps.cleared (s : State) : Keeps s (withdrawAll s).emptied :=
  .of_jobs lawful_emptied (withdrawAll_jobs_length_le s).trans (withdrawAll_ports s) (withdrawAll_notices s)
    (withdrawAll_esc s)

end

/-! ## Notices and the escalation unit -/

/-- The head notice leaves, and a LOST notice may take the room (R134, R135). -/
theorem Keeps.acknowledged {n : Notice} {rest : List Notice} (head : s.notices.entries = n :: rest) :
    Keeps s (postLost (s.setNotices { s.notices with entries := rest })) := by
  obtain ⟨verification, ports⟩ := postLost_verification (s.setNotices { s.notices with entries := rest })
  refine .of_notices verification ports fun kept => ?_
  obtain ⟨dropped, room⟩ := kept.drop head
  exact dropped.postLost room

/-- A notice expires, and the escalation unit takes its cause (R137). -/
theorem Keeps.expired (seq : Word) (key : Option Key) (s : State) :
    Keeps s (takeCause .deadline (some seq) key (expireNotice seq s)) :=
  .of_notices (verification_congr (takeCause_sched _ _ _ _) (by rw [takeCause_engine]; rfl) (takeCause_ports _ _ _ _))
    (takeCause_ports _ _ _ _) fun kept => kept.expire seq key

/-- The escalation unit changes while no expired notice is queued (R150). -/
theorem Keeps.escalation {e : Escalation} (unexpired : s.expiredQueued = false) : Keeps s (s.setEsc e) := by
  refine .of_notices rfl rfl fun ⟨bound, numbered, _⟩ => ⟨bound, numbered, fun n mem on => ?_⟩
  rw [State.expiredQueued, List.any_eq_false] at unexpired
  exact absurd on (unexpired n mem)

/-! ## The operations that the commands share -/

theorem Keeps.setWin (s : State) (w : Window) : Keeps s (s.setWin w) :=
  .of_cTable rfl rfl rfl rfl rfl

theorem Keeps.setEngine {e : Engine} (cTable : e.cTable = s.engine.cTable) : Keeps s (s.setEngine e) :=
  .of_cTable cTable rfl rfl rfl rfl

theorem Keeps.complete (r : Result) (v : Option (Vector Word 8)) (s : State) : Keeps s (complete r v s) := .setWin s _

theorem Keeps.then_complete (a : Keeps s t) (r : Result) (v : Option (Vector Word 8)) : Keeps s (Machine.complete r v t) :=
  a.trans (Keeps.complete r v t)

theorem Keeps.takeCause (kind : CauseKind) (seq : Option Word) (key : Option Key) (s : State) :
    Keeps s (takeCause kind seq key s) :=
  .same (verification_congr (by simp) (by simp) (by simp)) (by simp) (by simp) (by simp)
    fun clear => absurd clear (takeCause_mode _ _ _ _)

theorem Keeps.post (body : NoticeBody) (dated : Bool) (s : State) : Keeps s (post body dated s) :=
  .of_notices (verification_congr (post_sched _ _ s) (by rw [post_engine]) (post_ports _ _ s)) (post_ports _ _ s)
    fun kept => kept.post body dated

theorem Keeps.then_post (a : Keeps s t) (body : NoticeBody) (dated : Bool) : Keeps s (Machine.post body dated t) :=
  a.trans (Keeps.post body dated t)

theorem Keeps.postSevere (ref : RecRef) (core : RecordCore) (repeated : Bool) (s : State) :
    Keeps s (postSevere ref core repeated s) := by
  unfold Machine.postSevere
  dsimp only
  split
  · exact .post _ _ s
  · exact .post _ _ s
  · exact (Keeps.post _ _ s).trans (Keeps.takeCause _ _ _ _)

/-- A record written that is SUSPECT for the key that was SUSPECT there before, if any. -/
theorem Keeps.putC {slot : CSlot} {r : CRecord} (kept : r.suspectKey = s.verification.suspects slot) :
    Keeps s (s.putC slot r) := by
  refine .same ?_ rfl rfl rfl id
  rw [putC_verification, kept, Verification.withSuspect_self]

theorem Keeps.setMode (s : State) (m : EngineMode) : Keeps s (s.setMode m) := .setEngine rfl

theorem Keeps.setMemory (s : State) (m : MemId) (e : MemoryEntry) : Keeps s (s.setMemory m e) := .setEngine rfl

theorem Keeps.setRegion (s : State) (ix : RegionIx) (r : Region) : Keeps s (s.setRegion ix r) := .setEngine rfl

theorem Keeps.setPinned (s : State) (n : Nat) : Keeps s (s.setPinned n) := .setEngine rfl

theorem Keeps.putS (s : State) (slot : SSlot) (r : SRecord) : Keeps s (s.putS slot r) := .setEngine rfl

theorem Keeps.dropS (s : State) (slot : SSlot) : Keeps s (s.dropS slot) := .setEngine rfl

theorem Keeps.setCounts (s : State) (ix : RegionIx) (c : RegionCounts) : Keeps s (s.setCounts ix c) := .setEngine rfl

/-- A port changes but for its state and its tag. -/
theorem Keeps.setPort {ix : PortIx} {p : Port} (tag : p.outstanding = s.ports[ix].outstanding)
    (mode : p.mode = s.ports[ix].mode) (queue : p.queue.length ≤ s.ports[ix].queue.length) : Keeps s (s.setPort ix p) :=
  .port tag (fun ready _ => mode.trans ready) (le_max_of_le_right queue)

/-- A happening that a reset input holds changes nothing; else it is its effect. -/
theorem Keeps.whenRunning {f : State → State} (a : Keeps s (f s)) : Keeps s (whenRunning f s) := by
  rcases whenRunning_eq f s with e | e
  · rw [e]
    exact .refl
  · rwa [e]

theorem Keeps.takeByOwner {c : Command} {o : Owner} {body : State → State} (a : Keeps s (body s)) :
    Keeps s (takeByOwner c o body s) := by
  rcases takeByOwner_eq c o body s with e | e
  · rw [e]
    exact .refl
  · rwa [e]

theorem Keeps.takeByPort {c : Command} {body : PortIx → State → State} (a : ∀ ix, Keeps s (body ix s)) :
    Keeps s (takeByPort c body s) := by
  rcases takeByPort_eq c body s with e | ⟨ix, e⟩
  · rw [e]
    exact .refl
  · rw [e]
    exact a ix

end

end Sys2Proof.Machine
end

section
/-! SUPPORT. The record engine's commands, TAKE_REPORT and TAKE_ANSWERED_JOB keep the laws of verification and of the queues. -/

namespace Sys2Proof.Machine

section
variable {s t : State}

/-! ## Records and reports -/

/-- A record that takes the place of another for the same granule in the same state asks for a job as the other did. -/
theorem suspectKey_congr {r r' : CRecord} (mode : r'.mode = r.mode) (key : r'.core.key = r.core.key) :
    r'.suspectKey = r.suspectKey := by
  rw [CRecord.suspectKey, CRecord.suspectKey, mode, key]

/-- The threshold check enters a job only for a record that has none: one in COUNTING or UNVERIFIED (R14). -/
theorem thresholdCheck_keepsLaws {slot : CSlot} {r : CRecord} (at_ : s.verification.suspects slot = r.suspectKey) :
    Keeps s (thresholdCheck slot r s) := by
  have enters (free : r.mode ≠ .suspect) (wants : Bool) :
      Keeps s (if wants && s.queueRoom then enterJob slot r .normal s else s) := by
    split
    next both =>
      obtain ⟨-, room⟩ := (Bool.and_eq_true _ _).mp both
      exact Keeps.entered (at_.trans (suspectKey_none free)) ((queueRoom_iff s).mp room) _
    next => exact .refl
  unfold thresholdCheck
  split
  next mode => exact enters (by rw [mode]; nofun) _
  next mode => exact enters (by rw [mode]; nofun) _
  · exact .refl
  · exact .refl

theorem thresholdCheck_putC_keepsLaws {slot : CSlot} {r : CRecord} (kept : r.suspectKey = s.verification.suspects slot) :
    Keeps s (thresholdCheck slot r (s.putC slot r)) := by
  refine (Keeps.putC kept).trans (thresholdCheck_keepsLaws ?_)
  rw [putC_verification, kept, Verification.withSuspect_self]

theorem updateC_keepsLaws {slot : CSlot} {r : CRecord} (at_ : s.engine.cTable[slot] = some r) (rep : Report) :
    Keeps s (updateC slot r rep s) :=
  have same : (r.updated rep s.time.stamp).suspectKey = r.suspectKey :=
    suspectKey_congr rfl (RecordCore.updated_key _ _ _)
  thresholdCheck_putC_keepsLaws (same.trans (suspects_at at_).symm)

theorem createC_keepsLaws {slot : CSlot} (free : s.verification.suspects slot = none) (k : Key) (region : RegionIx)
    (rep : Report) : Keeps s (createC slot k region rep s) :=
  have counting : (CRecord.ofReport k region rep s.time.stamp).suspectKey = none := suspectKey_none nofun
  thresholdCheck_putC_keepsLaws (counting.trans free.symm)

theorem unrecordedC_keepsLaws (k : Key) (region : RegionIx) (s : State) : Keeps s (unrecordedC k region s) := by
  have counted : Keeps s (countUnrecorded region s) := .setCounts s _ _
  have flag (b : Bool) (s : State) : Keeps s (s.setEngine { s.engine with cFullArmed := b }) := .setEngine rfl
  unfold unrecordedC
  dsimp only
  split
  · exact Keeps.then_post (counted.trans (flag false _)) _ _
  · exact counted

/-- A free slot, and the slot of a victim, hold no SUSPECT record (R15, R16). -/
theorem recordC_keepsLaws (k : Key) (region : RegionIx) (rep : Report) (s : State) : Keeps s (recordC k region rep s) := by
  unfold recordC
  split
  next slot free =>
    have empty : s.engine.cTable[slot] = none := freeC_some free
    exact createC_keepsLaws (by show (s.engine.cTable[slot]).bind _ = none; rw [empty]; rfl) k region rep
  next =>
    split
    next slot r found =>
      obtain ⟨at_, mode, -⟩ := victim_some found
      have free : s.verification.suspects slot = none :=
        (suspects_at at_).trans (suspectKey_none (by rw [mode]; nofun))
      exact (Keeps.setCounts s _ _).trans (createC_keepsLaws (s := countEviction r.core.region s) free k region rep)
    next => exact unrecordedC_keepsLaws k region s

theorem applyCorrectable_keepsLaws (k : Key) (region : RegionIx) (rep : Report) (s : State) :
    Keeps s (applyCorrectable k region rep s) := by
  unfold applyCorrectable
  split
  · exact .setEngine rfl
  · split
    next found => exact updateC_keepsLaws (findC_some found).1 rep
    next => exact recordC_keepsLaws k region rep s

theorem updateS_keepsLaws (slot : SSlot) (r : SRecord) (rep : Report) (s : State) : Keeps s (updateS slot r rep s) := by
  unfold updateS
  dsimp only
  split
  · exact (Keeps.putS s slot _).trans (Keeps.postSevere _ _ _ _)
  · exact .putS s slot _

theorem promote_keepsLaws (slot : CSlot) (r : CRecord) (free : SSlot) (rep : Report) (s : State) :
    Keeps s (promote slot r free rep s) :=
  ((Keeps.putS s free _).trans (Keeps.removed _ _ _)).trans (Keeps.postSevere _ _ _ _)

theorem overflowS_keepsLaws (k : Key) (region : RegionIx) (s : State) : Keeps s (overflowS k region s) := by
  have counted : Keeps s (countUnrecorded region s) := .setCounts s _ _
  exact (counted.then_post _ _).trans (Keeps.takeCause _ _ _ _)

theorem applySevere_keepsLaws (k : Key) (region : RegionIx) (rep : Report) (s : State) :
    Keeps s (applySevere k region rep s) := by
  unfold applySevere
  split
  · exact updateS_keepsLaws _ _ _ _
  · exact promote_keepsLaws _ _ _ _ _
  · exact (Keeps.putS s _ _).trans (Keeps.postSevere _ _ _ _)
  · exact overflowS_keepsLaws _ _ _

theorem burstCount_keepsLaws (ix : RegionIx) (s : State) : Keeps s (burstCount ix s) := by
  unfold burstCount
  dsimp only
  split
  · exact .refl
  · split
    · exact (Keeps.setCounts s _ _).then_post _ _
    · exact .setCounts s _ _

theorem applyReport_keepsLaws (k : Key) (region : RegionIx) (rep : Report) (s : State) :
    Keeps s (applyReport k region rep s) := by
  have accepted : Keeps s (countAccepted region s) := .setCounts s _ _
  unfold applyReport
  split
  · exact accepted.trans (applySevere_keepsLaws _ _ _ _)
  · split
    · exact .setCounts s _ _
    · exact (accepted.trans (burstCount_keepsLaws _ _)).trans (applyCorrectable_keepsLaws _ _ _ _)

theorem takeReport_keepsLaws (s : State) : Keeps s (takeReport s) := by
  unfold takeReport
  split
  · split
    next ix rep _ =>
      have taken : Keeps s (s.setPort ix { s.ports[ix] with queue := s.ports[ix].queue.tail }) :=
        .setPort rfl rfl (by simp)
      have served (t : State) : Keeps t (t.setEngine { t.engine with lastServed := ix }) := .setEngine rfl
      refine (taken.trans (served _)).trans ?_
      unfold judgeReport
      dsimp only
      split
      · exact applyReport_keepsLaws _ _ _ _
      · exact Keeps.setCounts _ _ _
    · exact .refl
  · exact .refl

/-! ## Answers and VERIFY_RECORD -/

theorem applyAnswer_keepsLaws {slot : CSlot} {j : Job} (found : jobFor slot s.sched.jobs = some j) (r : CRecord) (a : Answer) :
    Keeps s (applyAnswer slot j r a s) := by
  have finished {r' : CRecord} (judged : r'.mode ≠ .suspect) : Keeps s ((removeJob slot s).putC slot r') :=
    Keeps.finished judged
  cases a with
  | clean =>
    have judged (limit : BitVec 4) : (r.clean limit).mode ≠ .suspect := by
      unfold CRecord.clean
      dsimp only
      split <;> nofun
    show Keeps s (applyClean slot r s)
    unfold applyClean
    dsimp only
    split
    · exact (finished (judged _)).then_post _ _
    · exact finished (judged _)
  | persists => exact (finished (r' := r.persists) nofun).then_post _ _
  | failed =>
    show Keeps s (applyFailed slot j r s)
    unfold applyFailed
    split
    · exact Keeps.requeued found _
    · exact (finished (r' := r.exhausted) nofun).then_post _ _

/-- The oldest ANSWERED job, where it is found, is the one the search for its slot finds (R63, R103). -/
theorem answeredAt_found {slot : CSlot} {j : Job} {r : CRecord} {a : Answer} (h : answeredAt slot s = some (j, r, a)) :
    jobFor slot s.sched.jobs = some j := by
  unfold answeredAt at h
  split at h
  next found _ =>
    split at h
    · cases h
      exact found
    · cases h
  next => cases h

theorem execTakeAnsweredJob_keepsLaws (h : execTakeAnsweredJob s = .next t) : Keeps s t := by
  unfold execTakeAnsweredJob at h
  split at h
  · cases h
    exact .refl
  · split at h
    · cases h
      exact .refl
    · split at h
      next found =>
        cases h
        exact applyAnswer_keepsLaws (answeredAt_found found) _ _
      next => cases h

theorem verifySuspect_keepsLaws {slot : CSlot} (h : verifySuspect slot s = .next t) : Keeps s t := by
  unfold verifySuspect at h
  split at h
  · cases h
  next found =>
    split at h
    next queued _ =>
      cases h
      exact (Keeps.raised found queued).then_complete _ _
    next =>
      cases h
      exact .complete _ _ _

theorem verifyC_keepsLaws {slot : CSlot} {r : CRecord} (at_ : s.engine.cTable[slot] = some r) (h : verifyC slot r s = .next t) :
    Keeps s t := by
  by_cases suspect : r.mode = .suspect
  · rw [verifyC_suspect suspect] at h
    exact verifySuspect_keepsLaws h
  · rw [verifyC_other suspect] at h
    split at h
    next room =>
      cases h
      have free := (suspects_at at_).trans (suspectKey_none suspect)
      exact (Keeps.entered free ((queueRoom_iff s).mp room) _).then_complete _ _
    next =>
      cases h
      exact .complete _ _ _

theorem execVerifyRecord_keepsLaws (h : execVerifyRecord s = .next t) : Keeps s t := by
  unfold execVerifyRecord verifyRecord at h
  split at h
  · split at h
    · split at h
      next at_ => exact verifyC_keepsLaws at_ h
      next =>
        cases h
        exact .complete _ _ _
    · cases h
      exact .complete _ _ _
  · cases h
    exact .refl

/-! ## The record commands -/

theorem onVersionC_keepsLaws {slot : CSlot} {v : Byte} {own : CRecord → State → State}
    (h : ∀ r, s.engine.cTable[slot] = some r → Keeps s (own r s)) : Keeps s (onVersionC slot v own s) := by
  unfold onVersionC
  split
  · exact .complete _ _ _
  next r at_ =>
    split
    · exact h r at_
    · exact .complete _ _ _

theorem onVersionS_keepsLaws {slot : SSlot} {v : Byte} {own : SRecord → State → State} (h : ∀ r, Keeps s (own r s)) :
    Keeps s (onVersionS slot v own s) := by
  unfold onVersionS
  split
  · exact .complete _ _ _
  · split
    · exact h _
    · exact .complete _ _ _

theorem retireRecord_keepsLaws (s : State) : Keeps s (retireRecord s) := by
  unfold retireRecord
  split
  · exact onVersionC_keepsLaws fun _ _ => (Keeps.removed _ _ _).then_complete _ _
  · exact onVersionS_keepsLaws fun _ => (Keeps.dropS s _).then_complete _ _
  · exact .complete _ _ _

/-- A record written again with its pin alone changed. -/
theorem setPin_keepsLaws {slot : CSlot} {r : CRecord} (at_ : s.engine.cTable[slot] = some r) (pin : Bool) (n : Nat) :
    Keeps s ((s.putC slot { r with pinned := pin }).setPinned n) :=
  have written : Keeps s (s.putC slot { r with pinned := pin }) := .putC (suspects_at at_).symm
  written.trans (Keeps.setPinned _ n)

theorem pinRecord_keepsLaws (s : State) : Keeps s (pinRecord s) := by
  unfold pinRecord
  split
  · refine onVersionC_keepsLaws fun r at_ => ?_
    unfold pinOwn
    split
    · exact .complete _ _ _
    · split
      · exact .complete _ _ _
      · exact (setPin_keepsLaws at_ true _).then_complete _ _
  · exact .complete _ _ _

theorem unpinRecord_keepsLaws (s : State) : Keeps s (unpinRecord s) := by
  unfold unpinRecord
  split
  · refine onVersionC_keepsLaws fun r at_ => ?_
    unfold unpinOwn
    split
    · exact (setPin_keepsLaws at_ false _).then_complete _ _
    · exact .complete _ _ _
  · exact .complete _ _ _

theorem settleRecord_keepsLaws (s : State) : Keeps s (settleRecord s) := by
  unfold settleRecord
  split
  · refine onVersionS_keepsLaws fun r => ?_
    unfold settleOwn
    split
    · exact .complete _ _ _
    · exact (Keeps.putS s _ _).then_complete _ _
  · exact .complete _ _ _

theorem clearTables_keepsLaws (s : State) : Keeps s (clearTables s) := by
  unfold clearTables
  split
  · exact .complete _ _ _
  · exact (Keeps.cleared s).then_complete _ _

/-! ## The other commands of the engine -/

theorem fetchRecord_keepsLaws (s : State) : Keeps s (fetchRecord s) := by
  unfold fetchRecord
  dsimp only
  split
  · exact .complete _ _ _
  all_goals split <;> exact .complete _ _ _

theorem findRecord_keepsLaws (s : State) : Keeps s (findRecord s) := by
  unfold findRecord
  dsimp only
  split
  · exact .complete _ _ _
  · split
    · unfold findAddress
      dsimp only
      split <;> exact .complete _ _ _
    · exact .complete _ _ _

theorem enterConfig_keepsLaws (s : State) : Keeps s (enterConfig s) := by
  unfold enterConfig
  split
  · exact (Keeps.setMode s _).then_complete _ _
  · exact .complete _ _ _

theorem leaveConfig_keepsLaws (s : State) : Keeps s (leaveConfig s) := by
  unfold leaveConfig
  split
  · exact (Keeps.setMode s _).then_complete _ _
  · exact .complete _ _ _

theorem setMemory_keepsLaws (s : State) : Keeps s (setMemory s) := by
  unfold setMemory
  split
  · exact .complete _ _ _
  · split
    · exact .complete _ _ _
    · split
      · exact .complete _ _ _
      · exact (Keeps.setMemory s _ _).then_complete _ _

theorem readMemory_keepsLaws (s : State) : Keeps s (readMemory s) := by
  unfold readMemory
  split <;> exact .complete _ _ _

theorem setRegion_keepsLaws (s : State) : Keeps s (setRegion s) := by
  have range (ix : Fin 12) (r : RegionRange) :
      Keeps s (s.setEngine { s.engine with ranges := s.engine.ranges.set ix.val r }) := .setEngine rfl
  unfold setRegion
  split
  · exact .complete _ _ _
  · split
    · unfold setRange
      split
      · exact .complete _ _ _
      · split
        · exact Keeps.then_complete ((range _ _).trans (Keeps.setRegion _ _ _)) _ _
        · exact .complete _ _ _
    · unfold setPolicy
      split
      · exact .complete _ _ _
      · exact (Keeps.setRegion s _ _).then_complete _ _
    · exact .complete _ _ _

theorem readRegion_keepsLaws (s : State) : Keeps s (readRegion s) := by
  unfold readRegion
  split
  · split <;> exact .complete _ _ _
  all_goals exact .complete _ _ _

theorem unmuteRegion_keepsLaws (s : State) : Keeps s (unmuteRegion s) := by
  unfold unmuteRegion
  split
  · exact .complete _ _ _
  · dsimp only
    split
    · exact (Keeps.setCounts s _ _).then_complete _ _
    · exact .complete _ _ _

theorem decay_keepsLaws (ix : RegionIx) (s : State) : Keeps s (decay ix s) := by
  unfold decay
  dsimp only
  split
  · exact .setCounts s _ _
  · exact .refl

end

end Sys2Proof.Machine
end

section
/-! SUPPORT. The commands of the other blocks keep the laws of verification and of the queues, and so does every command but
the rows of the reset inputs. -/

namespace Sys2Proof.Machine

section
variable {s t : State}

/-! ## Ports -/

/-- A port that ends its request in flight, whatever else changes of it but its tag (R95). -/
theorem endRequest_keepsLaws {ix : PortIx} {p : Port} (tag : p.outstanding = s.ports[ix].outstanding)
    (queue : s.ports[ix].QueueFrom p) : Keeps s (endRequest ix (s.setPort ix p)) := by
  have held : (s.setPort ix p).ports[ix] = p := set_get_same _ _ _
  unfold endRequest
  rw [held]
  split
  next none => exact Keeps.port tag (fun _ some => absurd none some) queue
  next out =>
    have twice : (s.setPort ix p).setPort ix { p with outstanding := none } =
        s.setPort ix { p with outstanding := none } := by
      simp only [State.setPort, State.setPorts, set_set]
    rw [twice]
    unfold returnJob
    split
    next found => exact Keeps.returned rfl queue found
    next absent => exact Keeps.freed (tag.symm.trans out) rfl queue absent

theorem Port.queueFrom_of_eq {p q : Port} (h : q.queue = p.queue) : p.QueueFrom q :=
  le_max_of_le_right (Nat.le_of_eq (congrArg _ h))

theorem sendFrame_keepsLaws (ix : PortIx) (f : OutFrame) (s : State) : Keeps s (sendFrame ix f s) :=
  .setPort (produce_outstanding _ _) (produce_mode _ _) (by rw [produce_queue])

theorem discardFrame_keepsLaws (ix : PortIx) (s : State) : Keeps s (discardFrame ix s) := by
  have counted : Keeps s (s.setPort ix { s.ports[ix] with rx := none, checkErrors := satInc s.ports[ix].checkErrors }) :=
    .setPort rfl rfl le_rfl
  have halted (t : State) : Keeps t (haltPort ix t) :=
    (endRequest_keepsLaws (p := { t.ports[ix] with mode := .halted }) rfl (Port.queueFrom_of_eq rfl)).then_post _ _
  unfold discardFrame
  dsimp only
  split
  · exact counted.trans (halted _)
  · exact counted

theorem takeHello_keepsLaws (ix : PortIx) (next : Byte) (reporter : Word) (s : State) :
    Keeps s (takeHello ix next reporter s) := by
  have opened : Keeps s (openLink ix next reporter s) :=
    endRequest_keepsLaws (produce_outstanding _ _) (Port.queueFrom_of_eq (produce_queue _ _))
  unfold takeHello
  split
  · exact .refl
  · exact opened
  · exact opened
  · exact sendFrame_keepsLaws _ _ _

theorem admitReport_keepsLaws (ix : PortIx) (f : ReportFrame) (s : State) : Keeps s (admitReport ix f s) := by
  unfold admitReport
  split
  · exact sendFrame_keepsLaws _ _ _
  · split
    · exact sendFrame_keepsLaws _ _ _
    · split
      · exact sendFrame_keepsLaws _ _ _
      next rep _ _ room =>
        have below : s.ports[ix].queue.length < 4 := Nat.lt_of_not_le room
        refine Keeps.port (produce_outstanding _ _) (fun ready _ => (produce_mode _ _).trans ready) ?_
        have entered : (s.ports[ix].accept rep).queue.length = s.ports[ix].queue.length + 1 := List.length_append
        unfold Port.QueueFrom
        rw [produce_queue, entered]
        omega

theorem takeReportFrame_keepsLaws (ix : PortIx) (f : ReportFrame) (s : State) : Keeps s (takeReportFrame ix f s) := by
  unfold takeReportFrame
  split
  · exact .refl
  · exact sendFrame_keepsLaws _ _ _
  · unfold judgeFrame
    dsimp only
    split
    · exact sendFrame_keepsLaws _ _ _
    · split
      · exact .setPort (produce_outstanding _ _) (produce_mode _ _) (by rw [produce_queue])
      · exact admitReport_keepsLaws _ _ _
  · exact sendFrame_keepsLaws _ _ _

theorem takeVerdict_keepsLaws (ix : PortIx) (tag result : Byte) (s : State) : Keeps s (takeVerdict ix tag result s) := by
  have stale : Keeps s (staleVerdict ix s) := .setPort rfl rfl le_rfl
  unfold takeVerdict
  split
  · unfold matchVerdict
    split
    next out _ =>
      split
      · unfold verdictNotification
        split
        next found =>
          exact Keeps.answered (p := { s.ports[ix] with outstanding := none }) rfl (Port.queueFrom_of_eq rfl) found _
        next absent => exact Keeps.freed out rfl (Port.queueFrom_of_eq rfl) absent
      · exact stale
    · exact stale
  all_goals exact .refl

theorem completeGood_keepsLaws (ix : PortIx) (f : InFrame) (s : State) : Keeps s (completeGood ix f s) := by
  unfold completeGood
  split
  · have ended : Keeps s (endReception ix s) := .setPort rfl rfl le_rfl
    refine ended.trans ?_
    cases f with
    | hello next reporter => exact takeHello_keepsLaws _ _ _ _
    | report frame => exact takeReportFrame_keepsLaws _ _ _
    | verdict tag result => exact takeVerdict_keepsLaws _ _ _ _
  · exact .refl

theorem completeBytes_keepsLaws (ix : PortIx) (bytes : List Byte) (s : State) : Keeps s (completeBytes ix bytes s) := by
  unfold completeBytes
  split
  · exact completeGood_keepsLaws _ _ _
  · split
    · exact discardFrame_keepsLaws _ _
    · exact .refl
  · exact .refl

theorem startFrame_keepsLaws (ix : PortIx) (low : Clocks) (s : State) : Keeps s (startFrame ix low s) :=
  .setPort rfl rfl le_rfl

theorem setIgnoring_keepsLaws (ix : PortIx) (b : Option Clocks) (s : State) : Keeps s (setIgnoring ix b s) :=
  .setPort rfl rfl le_rfl

theorem openFrame_keepsLaws (ix : PortIx) (high low : Clocks) (s : State) : Keeps s (openFrame ix high low s) := by
  unfold openFrame
  split
  · exact .refl
  · split
    · exact startFrame_keepsLaws _ _ _
    · exact setIgnoring_keepsLaws _ _ _

theorem afterTruncation_keepsLaws (ix : PortIx) (bitTime low : Clocks) (s : State) :
    Keeps s (afterTruncation ix bitTime low s) := by
  unfold afterTruncation
  split
  · exact startFrame_keepsLaws _ _ _
  · exact setIgnoring_keepsLaws _ _ _

theorem lowPeriod_keepsLaws (ix : PortIx) (high low : Clocks) (s : State) : Keeps s (lowPeriod ix high low s) := by
  have ofPeriod : Keeps s (lowPeriodOf ix high low s) := by
    unfold lowPeriodOf
    split
    · exact openFrame_keepsLaws _ _ _ _
    · split
      · exact (discardFrame_keepsLaws ix s).trans (afterTruncation_keepsLaws _ _ _ _)
      · exact .refl
  unfold lowPeriod
  split
  · exact .refl
  all_goals exact ofPeriod

theorem timeoutFrame_keepsLaws (ix : PortIx) (s : State) : Keeps s (timeoutFrame ix s) := by
  unfold timeoutFrame
  split
  · exact discardFrame_keepsLaws _ _
  · exact .refl

theorem sentOne_keepsLaws (ix : PortIx) (s : State) : Keeps s (s.setPort ix s.ports[ix].sentOne) := by
  unfold Port.sentOne
  split <;> exact .setPort rfl rfl le_rfl

/-- A port that is DOWN holds no tag, and one that goes DOWN ends its request (R90, R97). -/
theorem setPortMode_keepsLaws (ix : PortIx) (enable : Bool) (s : State) : Keeps s (setPortMode ix enable s) := by
  unfold setPortMode
  split
  next down => exact Keeps.port rfl (fun ready => nomatch down.symm.trans ready) (Port.queueFrom_of_eq rfl)
  · exact .refl
  · exact .refl
  · exact endRequest_keepsLaws rfl (Nat.zero_le _)

theorem setPortCommand_keepsLaws (ix : PortIx) (s : State) : Keeps s (setPort ix s) :=
  have flagged (b : Bool) : Keeps s (s.setPort ix { s.ports[ix] with haltOnError := b }) := .setPort rfl rfl le_rfl
  Keeps.then_complete ((flagged _).trans (setPortMode_keepsLaws _ _ _)) _ _

theorem restartPort_keepsLaws (ix : PortIx) (s : State) : Keeps s (restartPort ix s) := by
  unfold restartPort
  split
  next halted =>
    have restarted : Keeps s (s.setPort ix { s.ports[ix] with mode := .listen }) :=
      Keeps.port rfl (fun ready => nomatch halted.symm.trans ready) (Port.queueFrom_of_eq rfl)
    exact restarted.then_complete _ _
  all_goals exact .complete _ _ _

theorem flushPort_keepsLaws (ix : PortIx) (s : State) : Keeps s (flushPort ix s) :=
  have flushed : Keeps s (s.setPort ix s.ports[ix].flush) := .setPort rfl rfl (Nat.zero_le _)
  flushed.then_complete _ _

/-! ## The verify scheduler -/

theorem dispatchTo_keepsLaws (ix : PortIx) (s : State) : Keeps s (dispatchTo ix s) := by
  unfold dispatchTo
  split
  next chosen => exact Keeps.offered chosen
  next => exact .refl

theorem preemptOn_keepsLaws (ix : PortIx) (s : State) : Keeps s (preemptOn ix s) := by
  unfold preemptOn
  split
  next chosen =>
    obtain ⟨-, -, queued, -⟩ := preemptJob_some chosen
    exact Keeps.cancelled queued _
  next => exact .refl

theorem timeoutJob_keepsLaws (slot : CSlot) (s : State) : Keeps s (timeoutJob slot s) := by
  unfold timeoutJob
  split
  next found =>
    split
    · exact Keeps.cancelled (List.mem_of_find?_eq_some found) _
    · exact .refl
  next => exact .refl

theorem takeDispatch_keepsLaws (ix : PortIx) (s : State) : Keeps s (takeDispatch ix s) := by
  unfold takeDispatch
  split
  next head =>
    unfold takeDispatchOf
    dsimp only
    split
    next free =>
      obtain ⟨ready, idle⟩ := free
      exact Keeps.flown head idle (produce_outstanding _ _) ((produce_mode _ _).trans ready)
        (Port.queueFrom_of_eq (produce_queue _ _))
    next => exact Keeps.refused head
  next => exact .refl

theorem cancelOutcome_keepsLaws {ix : PortIx} {tag : Tag} {p : Port} (out : s.ports[ix].outstanding = some tag)
    (cleared : p.outstanding = none) (queue : s.ports[ix].QueueFrom p) :
    Keeps s (cancelOutcome ix tag (s.setPort ix p)) := by
  unfold cancelOutcome
  split
  next absent => exact Keeps.freed out cleared queue absent
  next j found =>
    obtain ⟨d, c, flies⟩ := (inFlightOn_iff ix tag j).mp (List.find?_some found)
    rw [flies]
    cases c with
    | none => exact Keeps.returned cleared queue found
    | some reason =>
      cases reason with
      | preempted => exact Keeps.returned cleared queue found
      | timedOut => exact Keeps.answered cleared queue found _

theorem takeCancel_keepsLaws (ix : PortIx) (s : State) : Keeps s (takeCancel ix s) := by
  unfold takeCancel
  split
  next head =>
    refine (Keeps.popped head).trans ?_
    unfold takeCancelOf
    dsimp only
    split
    next out =>
      exact cancelOutcome_keepsLaws out (produce_outstanding _ _) (Port.queueFrom_of_eq (produce_queue _ _))
    next => exact .refl
  next => exact .refl

/-! ## Notices, escalation and the host window -/

theorem ackNotice_keepsLaws (s : State) : Keeps s (ackNotice s) := by
  unfold ackNotice
  split
  · exact .complete _ _ _
  next head =>
    split
    · exact (Keeps.acknowledged head).then_complete _ _
    · exact .complete _ _ _

theorem reachNotice_keepsLaws (seq : Word) (s : State) : Keeps s (reachNotice seq s) := by
  unfold reachNotice
  split
  · split
    · exact .expired _ _ s
    · exact .refl
  · exact .refl

theorem reachHold_keepsLaws (s : State) : Keeps s (reachHold s) := by
  unfold reachHold
  split
  · exact .takeCause _ _ _ s
  · exact .refl

theorem clearFault_keepsLaws (s : State) : Keeps s (clearFault s) := by
  unfold clearFault
  split
  · exact .complete _ _ _
  · exact .complete _ _ _
  · split
    · exact .complete _ _ _
    next unexpired => exact (Keeps.escalation (Bool.eq_false_iff.mpr unexpired)).then_complete _ _

theorem readReaction_keepsLaws (s : State) : Keeps s (readReaction s) := by
  unfold readReaction
  split
  · exact .complete _ _ _
  · split <;> exact .complete _ _ _

theorem setTiming_keepsLaws (s : State) : Keeps s (setTiming s) := by
  unfold setTiming
  split
  · exact .complete _ _ _
  · split
    · exact .complete _ _ _
    · exact (Keeps.setWin s _).then_complete _ _

theorem writeCommand_keepsLaws (code : Word) (s : State) : Keeps s (writeCommand code s) := by
  have accepted : Keeps s (acceptCode code s) := .setWin s _
  have taken (c : Command) (t : State) : Keeps t (acceptCommand c t) := by
    unfold acceptCommand
    split
    · split
      · exact .setWin t _
      · exact .complete _ _ t
    · split
      · exact setTiming_keepsLaws t
      · exact .complete _ _ t
      · exact .setWin t _
  unfold writeCommand
  split
  · exact .setWin s _
  all_goals
    split
    · exact accepted.trans (taken _ _)
    · exact accepted.then_complete _ _

theorem writeRegister_keepsLaws (a : BitVec 5) (word : Word) (s : State) : Keeps s (writeRegister a word s) := by
  unfold writeRegister
  split
  · exact .setWin s _
  · split
    · exact writeCommand_keepsLaws _ _
    · split
      · exact .setWin s _
      · exact .refl

theorem tickOnce_keepsLaws (s : State) : Keeps s (tickOnce s) :=
  .of_cTable (by simp) (by simp) (by simp) (by simp) (by simp)

/-! ## Every command -/

/-- Every command but the rows of the reset inputs keeps the laws of verification and of the queues. -/
theorem exec_keepsLaws {i : Instr} (row : isResetRow i = false) (h : exec i s = .next t) : Keeps s t := by
  cases i
  case takeAnsweredJob => exact execTakeAnsweredJob_keepsLaws h
  case verifyRecord => exact execVerifyRecord_keepsLaws h
  case porstAssert | porstRelease | wrstAssert | endOfWarmReset => cases row
  all_goals cases h
  case takeReport => exact (takeReport_keepsLaws s).whenRunning
  case enterConfig => exact (enterConfig_keepsLaws s).takeByOwner
  case leaveConfig => exact (leaveConfig_keepsLaws s).takeByOwner
  case setMemory => exact (setMemory_keepsLaws s).takeByOwner
  case readMemory => exact (readMemory_keepsLaws s).takeByOwner
  case setRegion => exact (setRegion_keepsLaws s).takeByOwner
  case readRegion => exact (readRegion_keepsLaws s).takeByOwner
  case unmuteRegion => exact (unmuteRegion_keepsLaws s).takeByOwner
  case fetchRecord => exact (fetchRecord_keepsLaws s).takeByOwner
  case findRecord => exact (findRecord_keepsLaws s).takeByOwner
  case retireRecord => exact (retireRecord_keepsLaws s).takeByOwner
  case pinRecord => exact (pinRecord_keepsLaws s).takeByOwner
  case unpinRecord => exact (unpinRecord_keepsLaws s).takeByOwner
  case settleRecord => exact (settleRecord_keepsLaws s).takeByOwner
  case clearTables => exact (clearTables_keepsLaws s).takeByOwner
  case setPort => exact .takeByPort fun ix => setPortCommand_keepsLaws ix s
  case restartPort => exact .takeByPort fun ix => restartPort_keepsLaws ix s
  case flushPort => exact .takeByPort fun ix => flushPort_keepsLaws ix s
  case readPort => exact .takeByPort fun ix => .complete _ _ s
  case ackNotice => exact (ackNotice_keepsLaws s).takeByOwner
  case clearFault => exact (clearFault_keepsLaws s).takeByOwner
  case readReaction => exact (readReaction_keepsLaws s).takeByOwner
  case setTiming | readTiming | unknownCommand | commandOverrun | commandAccepted =>
    exact (writeCommand_keepsLaws _ s).whenRunning
  case setInterruptEnables | markSeen => exact (Keeps.setWin s _).whenRunning
  case stampLoRead => split <;> exact .setWin s _
  case registerWrite => exact (writeRegister_keepsLaws _ _ s).whenRunning
  case startDelimiter | longLowPeriod => exact (lowPeriod_keepsLaws _ _ _ s).whenRunning
  case hello | report | verdict => exact (completeGood_keepsLaws _ _ s).whenRunning
  case badFrame => exact (completeBytes_keepsLaws _ _ s).whenRunning
  case frameTimeout => exact (timeoutFrame_keepsLaws _ s).whenRunning
  case outboundFrameSent => exact (sentOne_keepsLaws _ s).whenRunning
  case dispatch => exact (dispatchTo_keepsLaws _ s).whenRunning
  case takeDispatch => exact (takeDispatch_keepsLaws _ s).whenRunning
  case preempt => exact (preemptOn_keepsLaws _ s).whenRunning
  case verifyTimeout => exact (timeoutJob_keepsLaws _ s).whenRunning
  case cancelRequest => exact (takeCancel_keepsLaws _ s).whenRunning
  case noticeDeadline => exact (reachNotice_keepsLaws _ s).whenRunning
  case faultHoldExpiry => exact (reachHold_keepsLaws s).whenRunning
  case decayDeadline => exact (decay_keepsLaws _ s).whenRunning
  case tick => exact tickOnce_keepsLaws s

end

end Sys2Proof.Machine
end

section
/-! SUPPORT. The laws of verification kept by the reset inputs, and so by every step; no step from a state that keeps them
stops. -/

namespace Sys2Proof.Machine

section
variable {s t : State}

/-! ## No step stops -/

/-- The search for a slot's job finds the job that stands in the queue. -/
theorem jobFor_of_mem {q : List Job} {j : Job} (h : (q.map Job.slot).Nodup) (queued : j ∈ q) : jobFor j.slot q = some j := by
  obtain ⟨k, found⟩ := Option.isSome_iff_exists.mp
    (List.find?_isSome (p := fun k : Job => k.slot == j.slot) |>.mpr ⟨j, queued, beq_self_eq_true _⟩)
  have same := List.find?_some found
  have slot : k.slot = j.slot := beq_iff_eq.mp same
  rw [jobFor, found, List.inj_on_of_nodup_map h (List.mem_of_find?_eq_some found) queued slot]

theorem mode_of_isAnswered {j : Job} (h : j.isAnswered = true) : ∃ port tag a, j.mode = .answered port tag a := by
  unfold Job.isAnswered at h
  split at h
  next mode => exact ⟨_, _, _, mode⟩
  next => cases h

/-- The oldest ANSWERED job and its record are there (R103, R104). -/
theorem execTakeAnsweredJob_next (h : JobsMatchRecords s) : ∃ t, execTakeAnsweredJob s = .next t := by
  obtain ⟨slots, records, -, -, answered, -⟩ := h
  unfold execTakeAnsweredJob
  split
  · exact ⟨_, rfl⟩
  · split
    · exact ⟨_, rfl⟩
    next slot rest order =>
      obtain ⟨j, queued, rfl, ans⟩ := (answered slot).mp (order ▸ List.mem_cons_self)
      obtain ⟨r, at_, -⟩ := records j queued
      have found : ∃ a, answeredAt j.slot s = some (j, r, a) := by
        obtain ⟨port, tag, a, mode⟩ := mode_of_isAnswered ans
        refine ⟨a, ?_⟩
        rw [answeredAt, jobFor_of_mem slots queued, at_]
        dsimp only
        rw [mode]
      obtain ⟨a, found⟩ := found
      rw [found]
      exact ⟨_, rfl⟩

/-- A SUSPECT record of a part that is not held has its job (R104). -/
theorem execVerifyRecord_next (h : JobsMatchRecords s) : ∃ t, execVerifyRecord s = .next t := by
  obtain ⟨slots, -, covered, -, -, warm⟩ := h
  unfold execVerifyRecord
  split
  next takes =>
    have running : s.held = false := by
      obtain ⟨running, -⟩ := (Bool.and_eq_true _ _).mp takes
      simpa using running
    have cold : s.resets.warm = false := Bool.eq_false_iff.mpr fun on => by
      obtain ⟨-, wrst, -⟩ := warm on
      rw [(held_iff s).mpr (.inr wrst)] at running
      cases running
    unfold verifyRecord
    split
    next slot _ =>
      split
      next r at_ =>
        by_cases suspect : r.mode = .suspect
        · obtain ⟨j, queued, rfl⟩ := covered slot r at_ suspect cold
          rw [verifyC_suspect suspect, verifySuspect, jobFor_of_mem slots queued]
          dsimp only
          split <;> exact ⟨_, rfl⟩
        · rw [verifyC_other suspect]
          split <;> exact ⟨_, rfl⟩
      next => exact ⟨_, rfl⟩
    next => exact ⟨_, rfl⟩
  next => exact ⟨_, rfl⟩

/-- No command stops at a state that keeps the laws of verification (R103, R104; log entry 19). -/
theorem exec_next (h : JobsLawful s) (i : Instr) : ∃ t, exec i s = .next t := by
  obtain ⟨records, -⟩ := h
  cases i
  case takeAnsweredJob => exact execTakeAnsweredJob_next records
  case verifyRecord => exact execVerifyRecord_next records
  all_goals exact ⟨_, rfl⟩

/-! ## The reset inputs -/

/-- What leaves the scheduler, the C-table, the ports and the inputs keeps the laws of verification. -/
theorem JobsLawful.congr (h : JobsLawful s) (sched : t.sched = s.sched) (cTable : t.engine.cTable = s.engine.cTable)
    (ports : t.ports = s.ports) (resets : t.resets = s.resets) : JobsLawful t := by
  unfold JobsLawful JobsMatchRecords UrgentFirst TagsHeld OneInFlight JobsNamed OffersHanded at *
  rwa [sched, cTable, ports, resets]

theorem assertPorst_jobsLawful (s : State) : JobsLawful (assertPorst s) := by
  obtain ⟨lawful, ready⟩ := (jobsLawful_iff (s := State.reset) rfl).mp jobsLawful_reset
  exact (jobsLawful_iff rfl).mpr ⟨lawful, ready⟩

theorem releasePorst_jobsLawful (h : JobsLawful s) : JobsLawful (releasePorst s) := by
  obtain ⟨⟨slots, records, covered, nodup, answered, warm⟩, rest⟩ := h
  refine ⟨⟨slots, records, covered, nodup, answered, fun on => ?_⟩, rest⟩
  obtain ⟨empty, wrst, -⟩ := warm on
  exact ⟨empty, wrst, rfl⟩

/-- A warm reset empties the verify queue and takes the tags from the ports (R102, R125, R155). -/
theorem startWarmReset_jobsLawful (s : State) : JobsLawful (startWarmReset s) := by
  obtain ⟨⟨slots, -, -, nodup, answered, -⟩, rest⟩ := jobsLawful_reset
  refine ⟨⟨slots, fun j queued => ?_, fun i r at_ mode cold => ?_, nodup, answered, fun _ => ⟨rfl, rfl, rfl⟩⟩, rest⟩
  · cases queued
  · cases cold

theorem assertWrst_jobsLawful (h : JobsLawful s) : JobsLawful (assertWrst s) := by
  unfold assertWrst
  split
  · exact h
  · split
    · obtain ⟨⟨slots, records, covered, nodup, answered, warm⟩, rest⟩ := h
      refine ⟨⟨slots, records, covered, nodup, answered, fun on => ?_⟩, rest⟩
      obtain ⟨empty, -, porst⟩ := warm on
      exact ⟨empty, rfl, porst⟩
    · exact startWarmReset_jobsLawful s

theorem CRecord.adjusted_mode (r : CRecord) : r.adjusted.mode ≠ .suspect := by
  unfold CRecord.adjusted
  split
  · nofun
  all_goals
    next mode =>
      rw [mode]
      nofun

theorem postOutcome_sched (n : Nat) (s : State) : (postOutcome n s).sched = s.sched := by
  unfold postOutcome
  dsimp only
  split <;> simp

theorem postOutcome_ports (n : Nat) (s : State) : (postOutcome n s).ports = s.ports := by
  unfold postOutcome
  dsimp only
  split <;> simp

/-- The end-of-warm-reset steps leave no SUSPECT record (R161). -/
theorem endSteps_suspects (s : State) (slot : CSlot) : (endSteps s).verification.suspects slot = none := by
  show ((endSteps s).engine.cTable[slot]).bind _ = none
  rw [endSteps, postOutcome_engine]
  show (s.engine.checkedRecords.checkedRegions.adjusted.cTable[slot]).bind _ = none
  rw [adjusted_cTable]
  cases s.engine.checkedRecords.checkedRegions.cTable[slot] with
  | none => rfl
  | some r => exact suspectKey_none r.adjusted_mode

theorem endSteps_sched (s : State) : (endSteps s).sched = s.sched := by
  rw [endSteps, postOutcome_sched]
  unfold checkRetained
  rfl

theorem endSteps_ports (s : State) : (endSteps s).ports = s.ports := by
  rw [endSteps, postOutcome_ports]
  unfold checkRetained
  rfl

theorem disturbRetained_sched (d : Disturbance) (s : State) : (disturbRetained d s).sched = s.sched := by
  unfold disturbRetained
  rfl

theorem disturbRetained_ports (d : Disturbance) (s : State) : (disturbRetained d s).ports = s.ports := by
  unfold disturbRetained
  rfl

/-- At the release of WRST the queue is empty, and so it stays (R104, R157). -/
theorem releaseWrst_jobsLawful (h : JobsLawful s) (d : Disturbance) : JobsLawful (releaseWrst d s) := by
  have cold : (releaseWrst d s).resets.warm = false := by rw [releaseWrst_resets]
  obtain ⟨⟨slots, records, covered, nodup, answered, warm⟩, urgent, ⟨tagged, ready⟩, flying, named, offers⟩ := h
  cases on : s.resets.warm with
  | true =>
    obtain ⟨empty, wrst, porst⟩ := warm on
    have acts : releaseWrst d s =
        endSteps (disturbRetained d (s.setResets { s.resets with wrst := false, warm := false })) := by
      unfold releaseWrst
      rw [wrst, on, porst]
      rfl
    have none := endSteps_suspects (disturbRetained d (s.setResets { s.resets with wrst := false, warm := false }))
    have sched : (releaseWrst d s).sched = s.sched := by rw [acts, endSteps_sched, disturbRetained_sched, State.setResets_sched]
    have ports : (releaseWrst d s).ports = s.ports := by rw [acts, endSteps_ports, disturbRetained_ports, State.setResets_ports]
    rw [← acts] at none
    generalize releaseWrst d s = t at *
    obtain ⟨-, -, below⟩ := named
    obtain ⟨single, -⟩ := offers
    refine (jobsLawful_iff cold).mpr ⟨⟨?_, ?_, ?_, ?_, ?_, fun slot key e => ?_, ?_, ?_⟩, ?_⟩
    · show t.sched.jobs.Pairwise _
      rw [sched, empty]
      exact .nil
    · show ∀ j ∈ t.sched.jobs, _
      rw [sched, empty]
      exact fun j queued => by cases queued
    · show ClassOrder t.sched.jobs
      rw [sched, empty]
      exact ⟨[], [], rfl, nofun, nofun⟩
    · show t.sched.answered.Nodup
      rwa [sched]
    · show ∀ slot ∈ t.sched.answered, ∃ j ∈ t.sched.jobs, _
      rw [sched]
      intro slot hs
      obtain ⟨j, queued, same, -⟩ := (answered slot).mp hs
      exact ⟨j, queued, same⟩
    · cases (none slot).symm.trans e
    · intro ix id tag m a mem
      have mem := mem_dispatches.mp mem
      rw [sched] at mem
      exact (below ix id tag m a mem).trans_eq (by rw [← sched]; rfl)
    · intro ix
      refine (List.countP_eq_length_filter (p := Handover.isDispatch)).symm.trans_le ?_
      rw [sched]
      exact single ix
    · intro ix
      rw [ports]
      exact ready ix
  | false =>
    have idle := releaseWrst_idle d (.inr (.inl on))
    rw [idle]
    exact ⟨⟨slots, records, fun i r at_ mode _ => covered i r at_ mode on, nodup, answered, nofun⟩, urgent, ⟨tagged, ready⟩,
      flying, named, offers⟩

/-! ## Every step -/

theorem Keeps.jobsLawful (a : Keeps s t) (resets : t.resets = s.resets) (running : s.held = false) (h : JobsLawful s) :
    JobsLawful t := by
  have cold : s.resets.warm = false := Bool.eq_false_iff.mpr fun on => by
    obtain ⟨⟨-, -, -, -, -, warm⟩, -⟩ := h
    obtain ⟨-, wrst, -⟩ := warm on
    rw [(held_iff s).mpr (.inr wrst)] at running
    cases running
  obtain ⟨verified, -⟩ := a
  exact (jobsLawful_iff (by rwa [resets])).mpr (verified ((jobsLawful_iff cold).mp h))

/-- Every command keeps the laws of verification (R93, R103 to R105, R108 to R110). -/
theorem exec_jobsLawful (h : JobsLawful s) {i : Instr} (e : exec i s = .next t) : JobsLawful t := by
  cases row : isResetRow i with
  | true =>
    cases i
    case porstAssert => cases e; exact assertPorst_jobsLawful s
    case porstRelease => cases e; exact releasePorst_jobsLawful h
    case wrstAssert => cases e; exact assertWrst_jobsLawful h
    case endOfWarmReset d => cases e; exact releaseWrst_jobsLawful h d
    all_goals cases row
  | false =>
    cases held : s.held with
    | false => exact (exec_keepsLaws row e).jobsLawful (exec_resets row e) held h
    | true =>
      by_cases tick : i = .tick
      · cases tick
        cases e
        exact h.congr (tickOnce_sched s) (by rw [tickOnce_engine]) (tickOnce_ports s) (tickOnce_resets s)
      · by_cases read : i = .stampLoRead
        · cases read
          cases e
          split <;> exact h
        · cases (exec_held held tick read row).symm.trans e
          exact h

end

/-- Settles O55: no command stops at a lawful state, and its effect, or the reset input, keeps the laws. -/
theorem jobsLawfulKeptAndStepNeverStops : Obligations.JobsLawfulKeptAndStepNeverStops := by
  unfold Obligations.JobsLawfulKeptAndStepNeverStops
  intro s h
  unfold step
  split
  · exact ⟨_, rfl, h.congr (clockPeriod_sched s) (by rw [clockPeriod_engine]) (clockPeriod_ports s) (clockPeriod_resets s)⟩
  next c rest _ =>
    have queued : JobsLawful (s.withPending rest) := h
    obtain ⟨t, next⟩ := exec_next queued c
    exact ⟨t, next, exec_jobsLawful queued next⟩

end Sys2Proof.Machine
end

section
/-! SUPPORT. The laws of the queues kept by the reset inputs, and so by every step (R87, R104, R128, R139). -/

namespace Sys2Proof.Machine

section
variable {s t : State}

theorem queuesKept_reset : QueuesKept State.reset := queuesKept_iff.mpr ⟨queuesBounded_reset, noticesLawful_reset⟩

theorem QueuesKept.congr (h : QueuesKept s) (ports : t.ports = s.ports) (sched : t.sched = s.sched)
    (notices : t.notices = s.notices) (esc : t.esc = s.esc) : QueuesKept t := by
  obtain ⟨bound, jobs, kept⟩ := h
  exact ⟨bound.congr ports, by rwa [sched], kept.of_eq notices esc⟩

theorem QueuesKept.post (h : QueuesKept s) (body : NoticeBody) : QueuesKept (post body false s) := by
  obtain ⟨ports, jobs, notices⟩ := h
  exact ⟨ports.congr (post_ports _ _ s), by rwa [post_sched], notices.post _ _⟩

theorem assertWrst_queuesKept (h : QueuesKept s) : QueuesKept (assertWrst s) := by
  unfold assertWrst
  split
  · exact h
  · split
    · exact h
    · obtain ⟨ports, jobs, bound, numbered, -⟩ := queuesKept_reset
      exact ⟨ports, jobs, bound, numbered, nofun⟩

theorem QueuesKept.checked (h : QueuesKept s) : QueuesKept (checkRetained s) := by
  unfold checkRetained
  exact h.congr rfl rfl rfl rfl

theorem disturbRetained_queuesKept (h : QueuesKept s) (d : Disturbance) : QueuesKept (disturbRetained d s) := by
  unfold disturbRetained
  exact h.congr rfl rfl rfl rfl

/-- The notices of the end-of-warm-reset steps are posted like any other (R162). -/
theorem releaseWrst_queuesKept (h : QueuesKept s) (d : Disturbance) : QueuesKept (releaseWrst d s) := by
  unfold releaseWrst
  dsimp only
  split
  · have checked := (disturbRetained_queuesKept (s := s.setResets { s.resets with wrst := false, warm := false }) h d).checked
    unfold endSteps postOutcome
    dsimp only
    split
    · exact checked.post _
    · exact (checked.post _).post _
  · exact h

theorem exec_queuesKept (h : QueuesKept s) {i : Instr} (e : exec i s = .next t) : QueuesKept t := by
  cases row : isResetRow i with
  | true =>
    cases i
    case porstAssert => cases e; exact queuesKept_reset
    case porstRelease => cases e; exact h
    case wrstAssert => cases e; exact assertWrst_queuesKept h
    case endOfWarmReset d => cases e; exact releaseWrst_queuesKept h d
    all_goals cases row
  | false =>
    obtain ⟨-, kept⟩ := exec_keepsLaws row e
    exact kept h

end

/-- Settles O56: every command keeps the laws of the queues, and so do the clock and the reset inputs. -/
theorem queueLawsKept : Obligations.QueueLawsKept := by
  unfold Obligations.QueueLawsKept
  intro s t bounded lawful next
  have kept : QueuesKept s := queuesKept_iff.mpr ⟨bounded, lawful⟩
  refine queuesKept_iff.mp ?_
  unfold step at next
  split at next
  · cases next
    exact kept.congr (clockPeriod_ports s) (clockPeriod_sched s) (clockPeriod_notices s) (clockPeriod_esc s)
  next c rest _ => exact exec_queuesKept (s := s.withPending rest) kept next

end Sys2Proof.Machine
end

section
/-! SUPPORT. The report ports: good frames in each port state, and the port commands (chapter 5). -/

namespace Sys2Proof.Machine

section
variable {s : State} {ix : PortIx} {p : Port} {tag : Tag}

/-! ## One port of the part -/

theorem endReception_port (ix : PortIx) (s : State) : (endReception ix s).ports[ix] = { s.ports[ix] with rx := none } :=
  withPort_get s ix _

theorem endReception_withPort (ix : PortIx) (p : Port) (s : State) : (endReception ix s).withPort ix p = s.withPort ix p :=
  withPort_withPort s ix _ p

theorem endReception_mode (ix : PortIx) (s : State) : (endReception ix s).ports[ix].mode = s.ports[ix].mode := by
  rw [endReception_port]

theorem Receiving.ended_mode {m : PortMode} (h : Receiving ix m s) : (endReception ix s).ports[ix].mode = m := by
  obtain ⟨-, -, mode⟩ := h
  rw [endReception_mode, mode]

theorem sendFrame_ended (f : OutFrame) (ix : PortIx) (s : State) :
    sendFrame ix f (endReception ix s) = s.withPort ix (({ s.ports[ix] with rx := none } : Port).produce f) := by
  rw [sendFrame, endReception_port, setPort_eq_withPort, endReception_withPort]

theorem clear_absent (h : p.outstanding = none) : ({ p with outstanding := none } : Port) = p := by
  cases p
  cases h
  rfl

/-- With no request in flight there is none to end (R95). -/
theorem endRequest_absent (h : p.outstanding = none) :
    endRequest ix (s.withPort ix p) = s.withPort ix { p with outstanding := none } := by
  rw [endRequest, withPort_get, h, clear_absent h]

/-- The request in flight of a port ends: the tag is cleared, the job returned (R95). -/
theorem endRequest_outstanding (h : p.outstanding = some tag) :
    endRequest ix (s.withPort ix p) = returnJob ix tag (s.withPort ix { p with outstanding := none }) := by
  rw [endRequest, withPort_get, h]
  dsimp only
  rw [setPort_eq_withPort, withPort_withPort]

/-! ## Good frames -/

theorem exec_hello_receiving {m : PortMode} (h : Receiving ix m s) (next : Byte) (reporter : Word) :
    exec (.hello ix next reporter) s = .next (takeHello ix next reporter (endReception ix s)) :=
  congrArg Host.Outcome.next (completeGood_receiving (f := .hello next reporter) h)

theorem exec_report_receiving {m : PortMode} (h : Receiving ix m s) (f : ReportFrame) :
    exec (.report ix f) s = .next (takeReportFrame ix f (endReception ix s)) :=
  congrArg Host.Outcome.next (completeGood_receiving (f := .report f) h)

theorem exec_verdict_receiving {m : PortMode} (h : Receiving ix m s) (tag result : Byte) :
    exec (.verdict ix tag result) s = .next (takeVerdict ix tag result (endReception ix s)) :=
  congrArg Host.Outcome.next (completeGood_receiving (f := .verdict tag result) h)

/-- A frame completes only where one is under reception (R80). -/
theorem completeGood_idle (f : InFrame) (h : s.ports[ix].rx = none) : completeGood ix f s = s := by
  rw [completeGood, h]
  rfl

theorem completeBytes_idle (bytes : List Byte) (h : s.ports[ix].rx = none) : completeBytes ix bytes s = s := by
  unfold completeBytes
  split
  next f _ => exact completeGood_idle f h
  next => rw [h]; rfl
  next => rfl

theorem timeoutFrame_idle (h : s.ports[ix].rx = none) : timeoutFrame ix s = s := by
  rw [timeoutFrame, h]
  rfl

/-! ## HELLO -/

theorem takeHello_opens (next : Byte) (reporter : Word) (h : s.ports[ix].mode = .listen ∨ s.ports[ix].mode = .ready) :
    takeHello ix next reporter s = openLink ix next reporter s := by
  rcases h with h | h <;> rw [takeHello, h]

/-- The link opened: the port holds no tag, and the job of the tag that it held is returned (R84, R85). -/
theorem openLink_ended (next : Byte) (reporter : Word) :
    let linked := s.withPort ix (({ s.ports[ix] with
      rx := none, mode := .ready, expected := next, lastAccepted := none, reporterId := some reporter
      outstanding := none } : Port).produce (.welcome ix next))
    (s.ports[ix].outstanding = none → openLink ix next reporter (endReception ix s) = linked) ∧
    ∀ tag, s.ports[ix].outstanding = some tag →
      openLink ix next reporter (endReception ix s) = returnJob ix tag linked := by
  rw [openLink, endReception_port, setPort_eq_withPort, endReception_withPort]
  refine ⟨fun out => ?_, fun tag out => ?_⟩
  · rw [endRequest_absent (by rw [produce_outstanding]; exact out), produce_clear_outstanding]
    rfl
  · rw [endRequest_outstanding (by rw [produce_outstanding]; exact out), produce_clear_outstanding]
    rfl

theorem takeHello_halted (next : Byte) (reporter : Word) (h : s.ports[ix].mode = .halted) :
    takeHello ix next reporter s = sendFrame ix (.nak 0 .halted) s := by
  rw [takeHello, h]

/-! ## REPORT -/

theorem takeReportFrame_listen (f : ReportFrame) (h : s.ports[ix].mode = .listen) :
    takeReportFrame ix f s = sendFrame ix (.nak f.seq .notReady) s := by
  rw [takeReportFrame, h]

theorem takeReportFrame_halted (f : ReportFrame) (h : s.ports[ix].mode = .halted) :
    takeReportFrame ix f s = sendFrame ix (.nak f.seq .halted) s := by
  rw [takeReportFrame, h]

theorem takeReportFrame_ready (f : ReportFrame) (h : s.ports[ix].mode = .ready) :
    takeReportFrame ix f s = judgeFrame ix f s := by
  rw [takeReportFrame, h]

/-- The code that names a kind (Table 11-2). -/
def Kind.number : Kind → Nat
  | .corr1 => 1
  | .corrM => 2
  | .scrub => 3
  | .uncorr => 4
  | .addrChk => 5

theorem kindOfCode_none {code : BitVec 3} (h : code = 0 ∨ 5 < code.toNat) : kindOfCode code = none := by
  revert code
  decide

theorem kindOfCode_some {code : BitVec 3} {kind : Kind} (h : code.toNat = kind.number) : kindOfCode code = some kind := by
  revert code
  cases kind <;> decide

/-- The report that a frame makes for a kind and a memory (R178). -/
def frameReport (f : ReportFrame) (kind : Kind) (m : MemId) : Report :=
  { seq := f.seq, kind := kind, mem := m, addr := f.addr, master := f.master.map fun b => b.setWidth 6
    syndrome := f.syndrome }

/-- A kind that is none of the five, or a memory id above 15, makes no report (R86, check 3). -/
theorem admissible_none {f : ReportFrame} (h : f.kind = 0 ∨ 5 < f.kind.toNat ∨ 15 < f.mem.toNat) : admissible f s = none := by
  unfold admissible
  rcases h with zero | high | outside
  · rw [kindOfCode_none (.inl zero)]
    rfl
  · rw [kindOfCode_none (.inr high)]
    rfl
  · rw [byteBelow_none outside]
    cases kindOfCode f.kind <;> rfl

/-- A report names one of the five kinds, a memory, and an address within the memory (R86, check 3). -/
theorem admissible_eq {f : ReportFrame} {kind : Kind} {m : MemId} (code : f.kind.toNat = kind.number)
    (id : f.mem.toNat = m.val) : admissible f s =
      if inMemory s.engine.memories[m] f.addr then some (frameReport f kind m) else none := by
  have low (b : Byte) : b.extractLsb' 0 6 = b.setWidth 6 := BitVec.setWidth_eq_extractLsb' (by decide) |>.symm
  unfold admissible frameReport
  simp only [kindOfCode_some code, byteBelow_some id, low, Option.bind_eq_bind, Option.bind_some]

section
variable {f : ReportFrame}

theorem judgeFrame_repeated (h : s.ports[ix].lastAccepted = some f.seq) :
    judgeFrame ix f s = sendFrame ix (.ack f.seq) s := if_pos h

theorem judgeFrame_unexpected (new : s.ports[ix].lastAccepted ≠ some f.seq) (h : f.seq ≠ s.ports[ix].expected) :
    judgeFrame ix f s = s.setPort ix
      (({ s.ports[ix] with sequenceErrors := satInc s.ports[ix].sequenceErrors } : Port).produce (.nak f.seq .sequence)) :=
  (if_neg new).trans (if_pos h)

theorem judgeFrame_expected (new : s.ports[ix].lastAccepted ≠ some f.seq) (h : f.seq = s.ports[ix].expected) :
    judgeFrame ix f s = admitReport ix f s :=
  (if_neg new).trans (if_neg (not_not.mpr h))

theorem admitReport_none (h : admissible f s = none) : admitReport ix f s = sendFrame ix (.nak f.seq .range) s := by
  rw [admitReport, h]

theorem admitReport_foreign {r : Report} (h : admissible f s = some r) (foreign : s.engine.memories[r.mem].owner ≠ some ix) :
    admitReport ix f s = sendFrame ix (.nak f.seq .foreign) s := by
  rw [admitReport, h]
  exact if_pos foreign

theorem admitReport_busy {r : Report} (h : admissible f s = some r) (own : s.engine.memories[r.mem].owner = some ix)
    (full : 4 ≤ s.ports[ix].queue.length) : admitReport ix f s = sendFrame ix (.nak f.seq .busy) s := by
  rw [admitReport, h]
  exact (if_neg (not_not.mpr own)).trans (if_pos full)

theorem admitReport_enters {r : Report} (h : admissible f s = some r) (own : s.engine.memories[r.mem].owner = some ix)
    (room : s.ports[ix].queue.length < 4) :
    admitReport ix f s = s.setPort ix ((s.ports[ix].accept r).produce (.ack f.seq)) := by
  rw [admitReport, h]
  exact (if_neg (not_not.mpr own)).trans (if_neg (Nat.not_le.mpr room))

end

/-! ## VERDICT -/

theorem takeVerdict_ready (tag result : Byte) (h : s.ports[ix].mode = .ready) :
    takeVerdict ix tag result s = matchVerdict ix tag result s := by
  rw [takeVerdict, h]

theorem takeVerdict_other (tag result : Byte) (h : s.ports[ix].mode ≠ .ready) : takeVerdict ix tag result s = s := by
  unfold takeVerdict
  split
  next ready => exact absurd ready h
  all_goals rfl

/-- The result byte of an answer (R91). -/
def Answer.number : Answer → Nat
  | .clean => 1
  | .persists => 2
  | .failed => 3

theorem answerOf_none {result : Byte} (h : result = 0 ∨ 3 < result.toNat) : answerOf result = none := by
  have ne (n : Byte) (low : 1 ≤ n.toNat ∧ n.toNat ≤ 3) : result ≠ n := by
    rintro rfl
    rcases h with rfl | h
    · exact absurd low.1 (by decide)
    · omega
  rw [answerOf, if_neg (ne 1 (by decide)), if_neg (ne 2 (by decide)), if_neg (ne 3 (by decide))]

theorem answerOf_some {result : Byte} {a : Answer} (h : result.toNat = a.number) : answerOf result = some a := by
  have named : result = BitVec.ofNat 8 a.number := BitVec.eq_of_toNat_eq (by rw [h]; cases a <;> rfl)
  rw [named]
  cases a <;> rfl

/-- A verdict that matches no request in flight is stale (R92). -/
theorem matchVerdict_stale {tag result : Byte}
    (h : (∀ t, s.ports[ix].outstanding = some t → tag.toNat ≠ t.toNat) ∨ answerOf result = none) :
    matchVerdict ix tag result s = staleVerdict ix s := by
  unfold matchVerdict
  split
  next t a out answer =>
    rcases h with other | none
    · refine if_neg fun same => other t out ?_
      rw [same, BitVec.toNat_setWidth_of_le (by decide)]
    · exact nomatch none.symm.trans answer
  next => rfl

/-- A verdict with the outstanding tag clears it and notifies the scheduler (R91). -/
theorem matchVerdict_matches {tag result : Byte} {t : Tag} {a : Answer} (out : s.ports[ix].outstanding = some t)
    (same : tag.toNat = t.toNat) (answer : answerOf result = some a) :
    matchVerdict ix tag result s = verdictNotification ix t a (s.setPort ix { s.ports[ix] with outstanding := none }) := by
  have width : tag = t.setWidth 8 :=
    BitVec.eq_of_toNat_eq (same.trans (BitVec.toNat_setWidth_of_le (by decide)).symm)
  rw [matchVerdict, out, answer]
  exact if_pos width

theorem find_inFlightOn_none (h : ∀ j ∈ s.sched.jobs, ∀ d c, j.mode ≠ .inFlight ix tag d c) :
    s.sched.jobs.find? (Job.inFlightOn ix tag) = none :=
  List.find?_eq_none.mpr fun j mem flies =>
    let ⟨d, c, mode⟩ := (inFlightOn_iff ix tag j).mp flies
    h j mem d c mode

theorem verdictNotification_absent {a : Answer} (h : ∀ j ∈ s.sched.jobs, ∀ d c, j.mode ≠ .inFlight ix tag d c) :
    verdictNotification ix tag a s = s := by
  rw [verdictNotification, find_inFlightOn_none h]

theorem find_inFlightOn {before after : List Job} {j : Job} (h : JobAt before j after s)
    (flies : ∃ d c, j.mode = .inFlight ix tag d c) (first : ∀ k ∈ before, ∀ d c, k.mode ≠ .inFlight ix tag d c) :
    s.sched.jobs.find? (Job.inFlightOn ix tag) = some j :=
  find_first_of_iff (inFlightOn_iff ix tag) h flies fun k mem ⟨d, c, mode⟩ => first k mem d c mode

theorem answerJob_at {before after : List Job} {j : Job} {a : Answer} (h : JobAt before j after s) :
    answerJob j ix tag a s = { s with sched := { s.sched with
      jobs := before ++ { j with mode := .answered ix tag a } :: after
      answered := s.sched.answered ++ [j.slot] } } := by
  rw [answerJob, replaceJob_mode h]
  rfl

/-! ## Port commands -/

theorem setPortMode_enables (down : p.mode = .down) :
    setPortMode ix true (s.withPort ix p) = s.withPort ix { p with mode := .listen } := by
  unfold setPortMode
  rw [withPort_get, down]
  dsimp only
  rw [setPort_eq_withPort, withPort_withPort]

theorem setPortMode_disables (up : p.mode ≠ .down) :
    setPortMode ix false (s.withPort ix p) = endRequest ix (s.withPort ix p.disabled) := by
  unfold setPortMode
  rw [withPort_get]
  split
  next off _ => cases off
  next off _ => cases off
  next down => exact absurd down up
  next => rw [setPort_eq_withPort, withPort_withPort]

/-- The port on entry to DOWN, its tag cleared (R97, R89, R83). -/
theorem disabled_cleared (p : Port) : ({ p.disabled with outstanding := none } : Port) = { p with
    mode := .down, queue := [], flushed := BitVec.ofNat 8 (min 255 (p.flushed.toNat + p.queue.length))
    rx := none, ignoring := none, bitTime := none, waiting := [], outstanding := none } := by
  rw [← satAdd_byte]
  rfl

theorem setPortMode_stays {enable : Bool} (h : enable = true ↔ s.ports[ix].mode ≠ .down) : setPortMode ix enable s = s := by
  unfold setPortMode
  split
  next down => exact absurd down (h.mp rfl)
  next => rfl
  next => rfl
  next up => exact absurd (h.mpr up) Bool.false_ne_true

end

end Sys2Proof.Machine
end

section
/-! SUPPORT. The frames of a port in LISTEN, READY and HALTED, and the port commands: the statements settled. -/

namespace Sys2Proof.Machine

/-- Settles O33: the link opens in LISTEN and READY; the request in flight, where there is one, ends. -/
theorem helloOpensOrRestartsLink : Obligations.HelloOpensOrRestartsLink := by
  unfold Obligations.HelloOpensOrRestartsLink
  refine fun s ix next reporter => ⟨fun linking => ?_, fun halted => ?_, fun running idle => ?_⟩
  · have run : exec (.hello ix next reporter) s = .next (openLink ix next reporter (endReception ix s)) := by
      rcases linking with listen | ready
      · rw [exec_hello_receiving listen, takeHello_opens next reporter (.inl listen.ended_mode)]
      · rw [exec_hello_receiving ready, takeHello_opens next reporter (.inr ready.ended_mode)]
    obtain ⟨absent, outstanding⟩ := openLink_ended (s := s) (ix := ix) next reporter
    exact ⟨fun out => run.trans (congrArg _ (absent out)), fun tag out => run.trans (congrArg _ (outstanding tag out))⟩
  · rw [exec_hello_receiving halted, takeHello_halted next reporter halted.ended_mode, sendFrame_ended]
  · exact congrArg Host.Outcome.next ((whenRunning_running _ running).trans (completeGood_idle _ idle))

/-- Settles O34: the six checks, one after another, each on the port whose reception has ended. -/
theorem reportFrameInReadyIsChecked : Obligations.ReportFrameInReadyIsChecked := by
  unfold Obligations.ReportFrameInReadyIsChecked
  intro s ix f ready
  have port := endReception_port ix s
  rw [exec_report_receiving ready, takeReportFrame_ready f ready.ended_mode]
  refine ⟨fun repeated => ?_, fun new wrong => ?_, fun new expected => ?_⟩
  · rw [judgeFrame_repeated (by rw [port]; exact repeated), sendFrame_ended]
  · rw [judgeFrame_unexpected (by rw [port]; exact new) (by rw [port]; exact wrong), setPort_eq_withPort,
      endReception_withPort, port]
  rw [judgeFrame_expected (by rw [port]; exact new) (by rw [port]; exact expected)]
  refine ⟨fun none => ?_, fun kind m code id => ?_⟩
  · rw [admitReport_none (admissible_none none), sendFrame_ended]
  have judged := admissible_eq (s := endReception ix s) (kind := kind) (by cases kind <;> exact code) id
  refine ⟨fun outside => ?_, fun inside => ?_⟩
  · have out : ¬ inMemory s.engine.memories[m] f.addr = true := fun inside =>
      Nat.not_lt.mpr outside ((inMemory_iff _ _).mp inside)
    rw [admitReport_none (judged.trans (if_neg out)), sendFrame_ended]
  · have report := judged.trans (if_pos ((inMemory_iff _ _).mpr inside))
    refine ⟨fun foreign => ?_, fun own full => ?_, fun own room => ?_⟩
    · rw [admitReport_foreign report foreign, sendFrame_ended]
    · rw [admitReport_busy report own (by rw [port]; exact full), sendFrame_ended]
    · rw [admitReport_enters report own (by rw [port]; exact room), setPort_eq_withPort, endReception_withPort, port,
        show f.seq + 1 = s.ports[ix].expected + 1 from congrArg (· + 1) expected]
      rfl

/-- Settles O35: a verdict that matches answers the first job IN_FLIGHT with its tag; any other is counted. -/
theorem verdictMatchesOrIsStale : Obligations.VerdictMatchesOrIsStale := by
  unfold Obligations.VerdictMatchesOrIsStale
  intro s ix tag result ready
  have port := endReception_port ix s
  rw [exec_verdict_receiving ready, takeVerdict_ready tag result ready.ended_mode]
  refine ⟨fun stale => ?_, fun t a out same code => ?_⟩
  · have none : (∀ t, (endReception ix s).ports[ix].outstanding = some t → tag.toNat ≠ t.toNat) ∨ answerOf result = none := by
      rw [port]
      exact stale.imp_right answerOf_none
    rw [matchVerdict_stale none, staleVerdict, setPort_eq_withPort, endReception_withPort, port]
  · have number : result.toNat = a.number := by cases a <;> exact code
    rw [matchVerdict_matches (by rw [port]; exact out) same (answerOf_some number),
      setPort_eq_withPort, endReception_withPort, port]
    refine ⟨fun absent => ?_, fun before j after d c queued flies first => ?_⟩
    · rw [verdictNotification_absent (s := s.withPort ix _) absent]
    · have placed : JobAt before j after (s.withPort ix { s.ports[ix] with rx := none, outstanding := none }) := queued
      rw [verdictNotification, find_inFlightOn placed ⟨d, c, flies⟩ first]
      exact congrArg Host.Outcome.next (answerJob_at placed)

/-- Settles O36: in LISTEN and HALTED only the reception ends and a REPORT is answered; with no frame under reception no
frame completes. -/
theorem framesOutsideReady : Obligations.FramesOutsideReady := by
  unfold Obligations.FramesOutsideReady
  intro s ix f tag result bits
  have other {m : PortMode} (h : Receiving ix m s) (not : m ≠ .ready) :
      exec (.verdict ix tag result) s = .next (s.withPort ix { s.ports[ix] with rx := none }) := by
    rw [exec_verdict_receiving h, takeVerdict_other tag result (by rwa [h.ended_mode])]
    rfl
  refine ⟨fun listen => ⟨?_, other listen nofun⟩, fun halted => ⟨?_, other halted nofun⟩, fun running idle => ?_⟩
  · rw [exec_report_receiving listen, takeReportFrame_listen f listen.ended_mode, sendFrame_ended]
  · rw [exec_report_receiving halted, takeReportFrame_halted f halted.ended_mode, sendFrame_ended]
  · have kept {g : State → State} (h : g s = s) : whenRunning g s = s := (whenRunning_running g running).trans h
    exact ⟨congrArg Host.Outcome.next (kept (completeGood_idle (.report f) idle)),
      congrArg Host.Outcome.next (kept (completeGood_idle (.verdict tag result) idle)),
      congrArg Host.Outcome.next (kept (completeBytes_idle _ idle)),
      congrArg Host.Outcome.next (kept (timeoutFrame_idle idle))⟩

/-- Settles O39: the flag is set first, and then the enable bit and the port state decide. -/
theorem setPortEnablesAndDisables : Obligations.SetPortEnablesAndDisables := by
  unfold Obligations.SetPortEnablesAndDisables
  intro s ix waits w p off
  have run : exec .setPort s = .next (complete .ok none (setPortMode ix (w.getLsbD 0) (s.withPort ix p))) :=
    congrArg Host.Outcome.next (takeByPort_waiting waits)
  have disabled : s.withPort ix { p.disabled with outstanding := none } = off := congrArg _ (disabled_cleared p)
  clear_value off p w
  rw [run]
  refine ⟨fun enable down => ?_, fun stays => ?_, fun clear up out => ?_, fun tag clear up out => ?_⟩
  · rw [enable, setPortMode_enables down]
  · rw [setPortMode_stays (by rwa [withPort_get])]
  · rw [clear, setPortMode_disables up, endRequest_absent (p := p.disabled) out, disabled]
  · rw [clear, setPortMode_disables up, endRequest_outstanding (p := p.disabled) out, disabled]

/-- Settles O40: only HALTED is left, to LISTEN, where a HELLO opens the link. -/
theorem restartPortLeavesHalted : Obligations.RestartPortLeavesHalted := by
  unfold Obligations.RestartPortLeavesHalted
  intro s ix waits
  have run : exec .restartPort s = .next (restartPort ix s) := congrArg Host.Outcome.next (takeByPort_waiting waits)
  obtain ⟨running, -⟩ := waits
  refine ⟨fun halted => ?_, fun other => ?_⟩
  · intro t
    have mode : t.ports[ix].mode = .listen := congrArg Port.mode (withPort_get s ix _)
    refine ⟨run.trans (by rw [restartPort, halted]; rfl), fun next reporter rx out => ?_⟩
    have listens : Receiving ix .listen t := ⟨running, rx, mode⟩
    clear_value t
    rw [exec_hello_receiving listens, takeHello_opens next reporter (.inl listens.ended_mode),
      (openLink_ended next reporter).1 out]
    have kept := clear_absent (p := { t.ports[ix] with
      rx := none, mode := .ready, expected := next, lastAccepted := none, reporterId := some reporter }) out
    exact congrArg (fun p : Port => Host.Outcome.next (t.withPort ix (p.produce (.welcome ix next)))) kept
  · rw [run, restartPort]
    split
    next halted => exact absurd halted other
    all_goals rfl

/-- Settles O41: the queue is emptied into the flushed counter in any port state. -/
theorem flushPortEmptiesQueue : Obligations.FlushPortEmptiesQueue := by
  unfold Obligations.FlushPortEmptiesQueue
  intro s ix waits
  have run : exec .flushPort s = .next (flushPort ix s) := congrArg Host.Outcome.next (takeByPort_waiting waits)
  rw [run, flushPort, Port.flush, satAdd_byte]
  rfl

end Sys2Proof.Machine
end

section
/-! SUPPORT. A port's takes of the scheduler's hand-overs (R93, R94, R109, R110, R113). -/

namespace Sys2Proof.Machine

section
variable {s : State} {ix : PortIx} {tag : Tag} {id : Nat} {m : MemId} {a : BitVec 32} {rest : List Handover}
  {before after : List Job} {j : Job}

/-! ## The head hand-over -/

theorem popHandover_cons {h : Handover} (handed : s.sched.handovers[ix] = h :: rest) :
    popHandover ix s = { s with sched := { s.sched with handovers := s.sched.handovers.set ix.val rest } } := by
  rw [popHandover, handed]
  rfl

theorem takeDispatch_other (h : ∀ id tag m a, s.sched.handovers[ix].head? ≠ some (.dispatch id tag m a)) :
    takeDispatch ix s = s := by
  unfold takeDispatch
  split
  next head => exact absurd head (h _ _ _ _)
  next => rfl

theorem takeDispatch_cons (handed : s.sched.handovers[ix] = .dispatch id tag m a :: rest) :
    takeDispatch ix s = takeDispatchOf id ix tag m a (popHandover ix s) := by
  rw [takeDispatch, handed]
  rfl

theorem takeCancel_other (h : ∀ tag, s.sched.handovers[ix].head? ≠ some (.cancel tag)) : takeCancel ix s = s := by
  unfold takeCancel
  split
  next head => exact absurd head (h _)
  next => rfl

theorem takeCancel_cons (handed : s.sched.handovers[ix] = .cancel tag :: rest) :
    takeCancel ix s = takeCancelOf ix tag (popHandover ix s) := by
  rw [takeCancel, handed]
  rfl

/-! ## A dispatch -/

/-- A free port in READY holds the tag and sends VERIFY (R93). -/
theorem takeDispatchOf_accepts (h : s.ports[ix].mode = .ready ∧ s.ports[ix].outstanding = none) :
    takeDispatchOf id ix tag m a s = flyJob id ix tag
      (s.withPort ix (({ s.ports[ix] with outstanding := some tag } : Port).produce (.verify tag m a))) :=
  if_pos h

theorem takeDispatchOf_refuses (h : ¬ (s.ports[ix].mode = .ready ∧ s.ports[ix].outstanding = none)) :
    takeDispatchOf id ix tag m a s = refuseOffer id ix tag s :=
  if_neg h

theorem find_offeredAs_none (h : ∀ j ∈ s.sched.jobs, ¬ (j.id = id ∧ j.mode = .queued (some (ix, tag)))) :
    s.sched.jobs.find? (Job.offeredAs id ix tag) = none :=
  List.find?_eq_none.mpr fun j mem named => h j mem ((offeredAs_iff id ix tag j).mp named)

theorem find_offeredAs (h : JobAt before j after s) (named : j.id = id ∧ j.mode = .queued (some (ix, tag)))
    (first : ∀ k ∈ before, ¬ (k.id = id ∧ k.mode = .queued (some (ix, tag)))) :
    s.sched.jobs.find? (Job.offeredAs id ix tag) = some j :=
  find_first_of_iff (offeredAs_iff id ix tag) h named first

theorem flyJob_absent (h : s.sched.jobs.find? (Job.offeredAs id ix tag) = none) : flyJob id ix tag s = s := by
  rw [flyJob, h]

theorem refuseOffer_absent (h : s.sched.jobs.find? (Job.offeredAs id ix tag) = none) : refuseOffer id ix tag s = s := by
  rw [refuseOffer, h]

theorem flyJob_at (h : JobAt before j after s) (found : s.sched.jobs.find? (Job.offeredAs id ix tag) = some j) :
    flyJob id ix tag s = s.withJobs (before ++ { j with
      mode := .inFlight ix tag (some (s.time.stamp + s.win.settings.verifyTimeout.setWidth 32)) none } :: after) := by
  rw [flyJob, found]
  dsimp only
  rw [replaceJob_mode h, armed_eq]
  rfl

theorem refuseOffer_at (h : JobAt before j after s) (found : s.sched.jobs.find? (Job.offeredAs id ix tag) = some j) :
    refuseOffer id ix tag s = s.withJobs (before ++ { j with mode := .queued none } :: after) := by
  rw [refuseOffer, found]
  dsimp only
  rw [replaceJob_mode h]
  rfl

/-! ## A cancel request -/

/-- An outstanding tag is cleared and CANCEL sent (R94). -/
theorem takeCancelOf_outstanding (h : s.ports[ix].outstanding = some tag) :
    takeCancelOf ix tag s = cancelOutcome ix tag
      (s.withPort ix (({ s.ports[ix] with outstanding := none } : Port).produce (.cancel tag))) :=
  if_pos h

theorem takeCancelOf_other (h : s.ports[ix].outstanding ≠ some tag) : takeCancelOf ix tag s = s := if_neg h

theorem cancelOutcome_absent (h : ∀ j ∈ s.sched.jobs, ∀ d c, j.mode ≠ .inFlight ix tag d c) :
    cancelOutcome ix tag s = s := by
  rw [cancelOutcome, find_inFlightOn_none h]

/-- A job marked TIMED_OUT is ANSWERED with FAILED, one marked PREEMPTED goes back to the head of its class (R113). -/
theorem cancelOutcome_timedOut {d : Option Stamp} (found : s.sched.jobs.find? (Job.inFlightOn ix tag) = some j)
    (mode : j.mode = .inFlight ix tag d (some .timedOut)) : cancelOutcome ix tag s = answerJob j ix tag .failed s := by
  rw [cancelOutcome, found]
  dsimp only
  rw [mode]

theorem cancelOutcome_preempted {d : Option Stamp} (found : s.sched.jobs.find? (Job.inFlightOn ix tag) = some j)
    (mode : j.mode = .inFlight ix tag d (some .preempted)) : cancelOutcome ix tag s = returnToHead j s := by
  rw [cancelOutcome, found]
  dsimp only
  rw [mode]

end

/-- Settles O29: the port's state and tag decide between the two outcomes, the name in the dispatch which job they are of. -/
theorem takeDispatchFliesOrRefuses : Obligations.TakeDispatchFliesOrRefuses := by
  unfold Obligations.TakeDispatchFliesOrRefuses
  refine fun s ix running => ⟨fun other => ?_, fun id tag m a rest handed => ?_⟩
  · exact congrArg Host.Outcome.next ((whenRunning_running _ running).trans (takeDispatch_other other))
  intro popped sent accepts named
  have pop : popHandover ix s = popped := popHandover_cons handed
  have run : exec (.takeDispatch ix) s = .next (takeDispatchOf id ix tag m a popped) :=
    congrArg Host.Outcome.next (((whenRunning_running _ running).trans (takeDispatch_cons handed)).trans (by rw [pop]))
  have take (h : accepts) : takeDispatchOf id ix tag m a popped = flyJob id ix tag sent := takeDispatchOf_accepts h
  have refuse (h : ¬ accepts) : takeDispatchOf id ix tag m a popped = refuseOffer id ix tag popped := takeDispatchOf_refuses h
  rw [run]
  refine ⟨fun absent => ⟨fun free => ?_, fun busy => ?_⟩,
    fun before j after queued offered first => ⟨fun free => ?_, fun busy => ?_⟩⟩
  · rw [take free, flyJob_absent (find_offeredAs_none (s := sent) absent)]
  · rw [refuse busy, refuseOffer_absent (find_offeredAs_none (s := popped) absent)]
  · have placed : JobAt before j after sent := queued
    rw [take free, flyJob_at placed (find_offeredAs placed offered first)]
    rfl
  · have placed : JobAt before j after popped := queued
    rw [refuse busy, refuseOffer_at placed (find_offeredAs placed offered first)]

/-- Settles O31: the outstanding tag decides whether the request is for the port, the job's cancel mark the outcome. -/
theorem cancelRequestOutcome : Obligations.CancelRequestOutcome := by
  unfold Obligations.CancelRequestOutcome
  refine fun s ix running => ⟨fun other => ?_, fun tag rest handed => ?_⟩
  · exact congrArg Host.Outcome.next ((whenRunning_running _ running).trans (takeCancel_other other))
  intro popped sent
  have pop : popHandover ix s = popped := popHandover_cons handed
  have run : exec (.cancelRequest ix) s = .next (takeCancelOf ix tag popped) :=
    congrArg Host.Outcome.next (((whenRunning_running _ running).trans (takeCancel_cons handed)).trans (by rw [pop]))
  rw [run]
  refine ⟨fun other => by rw [takeCancelOf_other (s := popped) other], fun out => ?_⟩
  have cleared : takeCancelOf ix tag popped = cancelOutcome ix tag sent := takeCancelOf_outstanding (s := popped) out
  rw [cleared]
  refine ⟨fun absent => by rw [cancelOutcome_absent (s := sent) absent], fun before j after d queued first => ?_⟩
  have placed : JobAt before j after sent := queued
  refine ⟨fun timedOut => ?_, fun urgents normals split urgent normal cls preempted => ?_⟩
  · rw [cancelOutcome_timedOut (find_inFlightOn placed ⟨_, _, timedOut⟩ first) timedOut]
    exact congrArg Host.Outcome.next (answerJob_at placed)
  · rw [cancelOutcome_preempted (find_inFlightOn placed ⟨_, _, preempted⟩ first) preempted, returnToHead_at placed, split,
      insertHead_split _ urgent normal, if_neg (show j.cls ≠ .urgent by rw [cls]; nofun)]

end Sys2Proof.Machine
end

section
/-! SUPPORT. The lanes: low periods, bad and truncated frames, and the frames a port sends (R80 to R83, R95, R176). -/

namespace Sys2Proof.Machine

section
variable {s : State} {ix : PortIx} {p q : Port} {high low : Clocks}

theorem withPort_self (s : State) (ix : PortIx) : s.withPort ix s.ports[ix] = s := by
  unfold State.withPort
  rw [Fin.getElem_fin, Vector.set_getElem_self]

/-! ## A port is replaced behind what leaves the ports -/

theorem post_withPort (body : NoticeBody) : (post body false s).withPort ix p = post body false (s.withPort ix p) := by
  unfold post
  split
  next room => rw [if_pos (show (s.withPort ix p).noticeRoom = true from room)]; rfl
  next full => rw [if_neg (show ¬ (s.withPort ix p).noticeRoom = true from full)]; rfl

theorem returnJob_withPort (tag : Tag) : (returnJob ix tag s).withPort ix p = returnJob ix tag (s.withPort ix p) := by
  unfold returnJob
  rw [show (s.withPort ix p).sched = s.sched from rfl]
  split <;> rfl

/-! ## Halting -/

/-- Nothing is in flight on a port that halts: it enters HALTED and the notice is posted (R81). -/
theorem haltPort_absent (out : p.outstanding = none) : haltPort ix (s.withPort ix p) =
    post (.portHalted ix) false (s.withPort ix { p with mode := .halted, outstanding := none }) := by
  rw [haltPort, withPort_get, setPort_eq_withPort, withPort_withPort, endRequest_absent (p := { p with mode := .halted }) out]

/-- The request in flight of a port that halts ends without a CANCEL frame (R81, R95). -/
theorem haltPort_outstanding {tag : Tag} (out : p.outstanding = some tag) : haltPort ix (s.withPort ix p) =
    post (.portHalted ix) false
      (returnJob ix tag (s.withPort ix { p with mode := .halted, outstanding := none })) := by
  rw [haltPort, withPort_get, setPort_eq_withPort, withPort_withPort, endRequest_outstanding (p := { p with mode := .halted }) out]

theorem haltsOnBad_iff : p.haltsOnBad = true ↔ p.haltOnError = true ∧ (p.mode = .listen ∨ p.mode = .ready) := by
  unfold Port.haltsOnBad
  rw [Bool.and_eq_true, Bool.or_eq_true, beq_iff_eq, beq_iff_eq]

/-- A port left as `q` by a frame that is discarded: halted where the frame halts it (R81). -/
def discardedTo (ix : PortIx) (q : Port) (s : State) : State :=
  if q.haltsOnBad then haltPort ix (s.withPort ix q) else s.withPort ix q

theorem discardFrame_eq (ix : PortIx) (s : State) : discardFrame ix s =
    discardedTo ix { s.ports[ix] with rx := none, checkErrors := satInc s.ports[ix].checkErrors } s := rfl

/-- A change of a port behind an operation that leaves the ports could have been made before it. -/
theorem withPort_behind {F : State → State} (ports : ∀ s, (F s).ports = s.ports)
    (behind : ∀ s p, (F s).withPort ix p = F (s.withPort ix p)) (g : Port → Port) :
    (F (s.withPort ix q)).withPort ix (g (F (s.withPort ix q)).ports[ix]) = F (s.withPort ix (g q)) := by
  have port : (F (s.withPort ix q)).ports[ix] = q := (congrArg (·[ix]) (ports _)).trans (withPort_get s ix q)
  rw [port, behind, withPort_withPort]

/-- What is done to the fields of the lane after a discard could have been done before it. -/
theorem discardedTo_revise (g : Port → Port) (halts : (g q).haltsOnBad = q.haltsOnBad)
    (out : (g q).outstanding = q.outstanding) (halted : g { q with mode := .halted, outstanding := none } =
      { g q with mode := .halted, outstanding := none }) :
    (discardedTo ix q s).withPort ix (g (discardedTo ix q s).ports[ix]) = discardedTo ix (g q) s := by
  cases on : q.haltsOnBad with
  | false =>
    have kept (p : Port) (h : p.haltsOnBad = false) : discardedTo ix p s = s.withPort ix p := by
      rw [discardedTo, h]
      rfl
    rw [kept q on, kept (g q) (halts.trans on), withPort_get, withPort_withPort]
  | true =>
    have halting (p : Port) (h : p.haltsOnBad = true) : discardedTo ix p s = haltPort ix (s.withPort ix p) := if_pos h
    rw [halting q on, halting (g q) (halts.trans on)]
    cases tag : q.outstanding with
    | none =>
      rw [haltPort_absent tag, haltPort_absent (out.trans tag), ← halted]
      exact withPort_behind (fun s => post_ports _ _ s) (fun _ _ => post_withPort _) g
    | some t =>
      rw [haltPort_outstanding tag, haltPort_outstanding (out.trans tag), ← halted]
      exact withPort_behind (F := fun s => post (.portHalted ix) false (returnJob ix t s))
        (fun s => (post_ports _ _ _).trans (returnJob_ports ix t s))
        (fun s p => (post_withPort _).trans (congrArg _ (returnJob_withPort t))) g

/-- What a discarded frame does with halt-on-error clear, and with it set (R81, R95). -/
theorem discardedTo_cases (up : q.mode ≠ .down) :
    let halted := s.withPort ix { q with mode := .halted, outstanding := none }
    (q.haltOnError = false ∨ q.mode = .halted → discardedTo ix q s = s.withPort ix q) ∧
    (q.haltOnError = true → q.mode ≠ .halted → q.outstanding = none →
      discardedTo ix q s = post (.portHalted ix) false halted) ∧
    ∀ tag, q.haltOnError = true → q.mode ≠ .halted → q.outstanding = some tag →
      discardedTo ix q s = post (.portHalted ix) false (returnJob ix tag halted) := by
  have halts (on : q.haltOnError = true) (live : q.mode ≠ .halted) : q.haltsOnBad = true := by
    refine haltsOnBad_iff.mpr ⟨on, ?_⟩
    cases mode : q.mode with
    | down => exact absurd mode up
    | listen => exact .inl rfl
    | ready => exact .inr rfl
    | halted => exact absurd mode live
  refine ⟨fun stays => if_neg fun on => ?_, fun on live out => ?_, fun tag on live out => ?_⟩
  · obtain ⟨on, live⟩ := haltsOnBad_iff.mp on
    rcases stays with off | halted
    · exact Bool.false_ne_true (off.symm.trans on)
    · rcases live with mode | mode <;> exact nomatch mode.symm.trans halted
  · rw [discardedTo, if_pos (halts on live), haltPort_absent out]
  · rw [discardedTo, if_pos (halts on live), haltPort_outstanding out]

/-! ## Low periods -/

theorem exec_lowPeriod (running : s.held = false) {i : Instr}
    (h : i = .startDelimiter ix ⟨high, low⟩ ∨ i = .longLowPeriod ix ⟨high, low⟩) :
    exec i s = .next (lowPeriod ix high low s) := by
  rcases h with rfl | rfl <;> exact congrArg Host.Outcome.next (whenRunning_running _ running)

theorem lowPeriod_down (h : s.ports[ix].mode = .down) : lowPeriod ix high low s = s := by
  rw [lowPeriod, h]

theorem lowPeriod_up (h : s.ports[ix].mode ≠ .down) : lowPeriod ix high low s = lowPeriodOf ix high low s := by
  unfold lowPeriod
  split
  next down => exact absurd down h
  all_goals rfl

theorem startFrame_eq (ix : PortIx) (low : Clocks) (s : State) : startFrame ix low s = s.withPort ix { s.ports[ix] with
    rx := some { deadline := s.time.stamp + s.win.settings.frameTimeout.setWidth 32, bitTime := low / 16 }
    ignoring := none
    bitTime := some (low / 16) } := by
  rw [startFrame, armed_eq]
  rfl

theorem lowPeriodOf_idle (h : s.ports[ix].rx = none) : lowPeriodOf ix high low s = openFrame ix high low s := by
  rw [lowPeriodOf, h]

theorem openFrame_ignores (h : s.ports[ix].ignores high = true) : openFrame ix high low s = s := if_pos h

theorem openFrame_starts (h : s.ports[ix].ignores high = false) (long : 64 ≤ low) (short : low ≤ 65536) :
    openFrame ix high low s = startFrame ix low s := by
  rw [openFrame, h, (isDelimiter_iff low).mpr ⟨long, short⟩]
  rfl

theorem isDelimiter_eq_false (h : low < 64 ∨ 65536 < low) : isDelimiter low = false := by
  rw [Bool.eq_false_iff, Ne, isDelimiter_iff]
  exact fun ⟨least, most⟩ => h.elim (Nat.not_lt.mpr least) (Nat.not_lt.mpr most)

theorem openFrame_other (h : s.ports[ix].ignores high = false) (other : low < 64 ∨ 65536 < low) :
    openFrame ix high low s = s.withPort ix { s.ports[ix] with ignoring := none } := by
  rw [openFrame, h, isDelimiter_eq_false other]
  rfl

section
variable {frame : Reception}

theorem lowPeriodOf_short (h : s.ports[ix].rx = some frame) (short : low ≤ 12 * frame.bitTime) :
    lowPeriodOf ix high low s = s := by
  rw [lowPeriodOf, h]
  exact if_neg (Nat.not_lt.mpr short)

theorem lowPeriodOf_long (h : s.ports[ix].rx = some frame) (long : 12 * frame.bitTime < low) :
    lowPeriodOf ix high low s = afterTruncation ix frame.bitTime low (discardFrame ix s) := by
  rw [lowPeriodOf, h]
  exact if_pos long

theorem discardedTo_time (ix : PortIx) (q : Port) (s : State) : (discardedTo ix q s).time = s.time := by
  unfold discardedTo
  split
  · exact haltPort_time ix _
  · rfl

theorem discardedTo_win (ix : PortIx) (q : Port) (s : State) : (discardedTo ix q s).win = s.win := by
  unfold discardedTo
  split
  · exact haltPort_win ix _
  · rfl

/-- A low period that ended a frame and is no start delimiter leaves the port ignoring the lane (R176). -/
theorem afterTruncation_ignores (bitTime : Clocks) (other : low < 64 ∨ 65536 < low) :
    afterTruncation ix bitTime low (discardedTo ix q s) = discardedTo ix { q with ignoring := some bitTime } s := by
  have revised := discardedTo_revise (s := s) (ix := ix) (q := q) (fun p => { p with ignoring := some bitTime }) rfl rfl rfl
  rw [afterTruncation, isDelimiter_eq_false other, if_neg Bool.false_ne_true]
  exact revised

/-- A start delimiter that ended a frame puts another under reception (R81, R176). -/
theorem afterTruncation_starts (bitTime : Clocks) (least : 64 ≤ low) (most : low ≤ 65536) :
    afterTruncation ix bitTime low (discardedTo ix q s) = discardedTo ix { q with
      rx := some { deadline := s.time.stamp + s.win.settings.frameTimeout.setWidth 32, bitTime := low / 16 }
      ignoring := none
      bitTime := some (low / 16) } s := by
  have revised := discardedTo_revise (s := s) (ix := ix) (q := q) (fun p => { p with
    rx := some { deadline := s.time.stamp + s.win.settings.frameTimeout.setWidth 32, bitTime := low / 16 }
    ignoring := none
    bitTime := some (low / 16) }) rfl rfl rfl
  rw [afterTruncation, (isDelimiter_iff low).mpr ⟨least, most⟩, if_pos rfl, startFrame_eq, discardedTo_time, discardedTo_win]
  exact revised

/-! ## Bad frames and the frame timeout -/

theorem exec_badFrame_incomplete (running : s.held = false) {bits : List Bool}
    (h : receive (bytesOnLane bits) = .incomplete) : exec (.badFrame ix bits) s = .next s := by
  refine congrArg Host.Outcome.next ((whenRunning_running _ running).trans ?_)
  rw [completeBytes, h]

theorem exec_badFrame_bad (running : s.held = false) (rx : s.ports[ix].rx = some frame) {bits : List Bool}
    (h : receive (bytesOnLane bits) = .bad) : exec (.badFrame ix bits) s = .next (discardFrame ix s) := by
  refine congrArg Host.Outcome.next ((whenRunning_running _ running).trans ?_)
  rw [completeBytes, h, rx]
  rfl

theorem exec_frameTimeout (running : s.held = false) (rx : s.ports[ix].rx = some frame) :
    exec (.frameTimeout ix) s =
      .next (if (s.time.stamp - frame.deadline).toNat < 2 ^ 31 then discardFrame ix s else s) := by
  refine congrArg Host.Outcome.next ((whenRunning_running _ running).trans ?_)
  rw [timeoutFrame, rx]
  exact if_congr (reached_iff _ _) rfl rfl

end

/-! ## Frames sent -/

theorem exec_outboundFrameSent (running : s.held = false) :
    exec (.outboundFrameSent ix) s = .next (s.withPort ix s.ports[ix].sentOne) :=
  congrArg Host.Outcome.next (whenRunning_running _ running)

theorem sentOne_idle (h : p.sending = none) : p.sentOne = p := by
  rw [Port.sentOne, h]

theorem sentOne_last {g : Sending} (h : p.sending = some g) (last : p.waiting = []) :
    p.sentOne = { p with sending := none } := by
  rw [Port.sentOne, h, last]

theorem sentOne_more {g : Sending} {f : OutFrame} {rest : List OutFrame} (h : p.sending = some g)
    (more : p.waiting = f :: rest) :
    p.sentOne = { p with sending := some { frame := f, bitTime := p.bitTime }, waiting := rest } := by
  rw [Port.sentOne, h, more]

end

/-- Settles O37: each way in which a frame ends badly discards it, with the fields of the lane that the low period leaves. -/
theorem badFramesAreCountedAndHalt : Obligations.BadFramesAreCountedAndHalt := by
  unfold Obligations.BadFramesAreCountedAndHalt
  refine fun s ix i frame running up rx => ⟨fun stays => ?_, fun rx' ignoring bitTime ended => ?_⟩
  · rcases stays with ⟨bits, rfl, incomplete⟩ | ⟨rfl, early⟩ | ⟨high, low, period, short⟩
    · exact exec_badFrame_incomplete running incomplete
    · rw [exec_frameTimeout running rx, if_neg (Nat.not_lt.mpr early)]
    · rw [exec_lowPeriod running period, lowPeriod_up up, lowPeriodOf_short rx short]
  · intro p halted
    have discarded : exec i s = .next (discardedTo ix p s) := by
      rcases ended with ⟨⟨bits, rfl, bad⟩ | ⟨rfl, due⟩, rfl, rfl, rfl⟩ | ⟨high, low, rfl, long, other, rfl, rfl, rfl⟩ |
        ⟨high, low, period, long, least, most, rfl, rfl, rfl⟩
      · exact exec_badFrame_bad running rx bad
      · rw [exec_frameTimeout running rx, if_pos due]
        rfl
      · rw [exec_lowPeriod running (.inr rfl), lowPeriod_up up, lowPeriodOf_long rx long, discardFrame_eq,
          afterTruncation_ignores _ other]
      · rw [exec_lowPeriod running period, lowPeriod_up up, lowPeriodOf_long rx long, discardFrame_eq,
          afterTruncation_starts _ least most]
    obtain ⟨stays, absent, outstanding⟩ := discardedTo_cases (s := s) (ix := ix) (q := p) up
    rw [discarded]
    exact ⟨fun off => congrArg _ (stays off), fun on live out => congrArg _ (absent on live out),
      fun tag on live out => congrArg _ (outstanding tag on live out)⟩

/-- Settles O38: what a low period opens where no frame is under reception, and the frames a port sends. -/
theorem lowPeriodsAndOutboundFrames : Obligations.LowPeriodsAndOutboundFrames := by
  unfold Obligations.LowPeriodsAndOutboundFrames
  refine fun s ix => ⟨fun held => ⟨?_, fun extra => if_pos held⟩, fun running => ⟨fun high low i period => ?_, fun idle => ?_,
    fun g busy => ?_⟩⟩
  · rw [State.txHeldHigh, held]
    rfl
  · rw [exec_lowPeriod running period]
    refine ⟨fun down => by rw [lowPeriod_down down], fun up rx => ?_⟩
    rw [lowPeriod_up up, lowPeriodOf_idle rx]
    refine ⟨fun b ignoring early => ?_, fun hears => ?_⟩
    · rw [openFrame_ignores ((ignores_iff _ _).mpr ⟨b, ignoring, early⟩)]
    · have live := ignores_eq_false hears
      exact ⟨fun least most => by rw [openFrame_starts live least most, startFrame_eq],
        fun other => by rw [openFrame_other live other]⟩
  · refine ⟨?_, ?_, fun f => produce_idle f idle⟩
    · rw [exec_outboundFrameSent running, sentOne_idle idle, withPort_self]
    · rw [State.txHeldHigh, running, idle]
      rfl
  · rw [exec_outboundFrameSent running]
    refine ⟨fun f => produce_busy f busy, ?_, fun extra => ?_, fun last => by rw [sentOne_last busy last],
      fun f rest more => by rw [sentOne_more busy more]⟩
    · rw [State.txHeldHigh, running, busy]
      rfl
    · rw [State.txBits, running, busy]
      rfl

end Sys2Proof.Machine
end

section
/-! SUPPORT. Inbound frames on a lane: the length and the fields of a body, and what a port makes of the bytes that it has
received (R80, R177, R178, section 11.2). -/

namespace Sys2Proof.Machine

section

/-! ## Fields -/

theorem join16_bytes (w : Word) : join16 (hiByte w) (loByte w) = w := by
  refine BitVec.eq_of_getLsbD_eq fun i hi => ?_
  unfold join16 hiByte loByte
  rw [BitVec.getLsbD_append]
  split
  next low => simp [low]
  next high => simp [show i - 8 < 8 by omega, show 8 + (i - 8) = i by omega]

theorem bytes16_inj {v w : Word} : bytes16 v = bytes16 w ↔ v = w := by
  refine ⟨fun same => ?_, congrArg bytes16⟩
  obtain ⟨hi, lo, -⟩ := List.cons_eq_cons.mp same |>.imp_right List.cons_eq_cons.mp
  rw [← join16_bytes v, hi, lo, join16_bytes]

theorem join32_bytes (a : BitVec 32) :
    join32 (a.extractLsb' 24 8) (a.extractLsb' 16 8) (a.extractLsb' 8 8) (a.extractLsb' 0 8) = a := by
  have adjacent {n m k : Nat} : a.extractLsb' (m + k) n ++ a.extractLsb' k m = a.extractLsb' k (n + m) := by
    rw [Nat.add_comm m k]
    exact BitVec.extractLsb'_append_extractLsb'_eq_extractLsb' rfl
  calc
    _ = a.extractLsb' 16 16 ++ a.extractLsb' 8 8 ++ a.extractLsb' 0 8 :=
      congrArg (· ++ a.extractLsb' 8 8 ++ a.extractLsb' 0 8) (adjacent (k := 16))
    _ = a.extractLsb' 8 24 ++ a.extractLsb' 0 8 := congrArg (· ++ a.extractLsb' 0 8) (adjacent (k := 8))
    _ = a.extractLsb' 0 32 := adjacent (k := 0)
    _ = a := BitVec.extractLsb'_eq_self

/-- The kind byte holds the two presence flags, the ignored bits and the kind code (Table 11-2). -/
theorem kindByte_fields : ∀ (master syndrome : Bool) (ignored kind : BitVec 3),
    let b : Byte := BitVec.ofBool master ++ BitVec.ofBool syndrome ++ ignored ++ kind
    b.msb = master ∧ b.getLsbD 6 = syndrome ∧ b.extractLsb' 3 3 = ignored ∧ b.extractLsb' 0 3 = kind := by
  decide

/-! ## The length of a body -/

/-- Once the bytes that decide the length have come, those that follow do not change it (R177). -/
theorem bodyLength_append (l more : List Byte) : bodyLength l = none ∨ bodyLength l = bodyLength (l ++ more) := by
  fun_cases bodyLength l
  · exact .inr rfl
  · exact .inr rfl
  · exact .inr rfl
  · exact .inl rfl

theorem bodyLength_body (f : InFrame) (more : List Byte) : bodyLength (f.body ++ more) = some f.body.length := by
  cases f with
  | hello next reporter => rfl
  | verdict tag result => rfl
  | report f =>
    obtain ⟨hasMaster, hasSyndrome, -, -⟩ := kindByte_fields f.master.isSome f.syndrome.isSome f.ignored f.kind
    obtain ⟨seq, kind, ignored, mem, addr, master, syndrome⟩ := f
    show some (8 + (BitVec.msb (ReportFrame.kindByte _)).toNat + 2 * ((ReportFrame.kindByte _).getLsbD 6).toNat) = _
    rw [ReportFrame.kindByte, hasMaster, hasSyndrome]
    cases master <;> cases syndrome <;> rfl

theorem body_type (f : InFrame) : ∃ t rest, f.body = t :: rest ∧ isInboundType t = true := by
  cases f <;> exact ⟨_, _, rfl, rfl⟩

/-- The fields of a body are read as they were written (Table 11-1). -/
theorem parseBody_body (f : InFrame) : parseBody f.body = some f := by
  cases f with
  | hello next reporter => exact congrArg (fun w => some (InFrame.hello next w)) (join16_bytes reporter)
  | verdict tag result => rfl
  | report f =>
    obtain ⟨seq, kind, ignored, mem, addr, master, syndrome⟩ := f
    obtain ⟨hasMaster, hasSyndrome, ignoredBits, kindBits⟩ := kindByte_fields master.isSome syndrome.isSome ignored kind
    cases master <;> cases syndrome <;>
      simp_all [InFrame.body, ReportFrame.kindByte, parseBody, bytes32, bytes16, optByte, optWord, join32_bytes, join16_bytes]

/-! ## What the bytes received make -/

variable {l : List Byte} {f : InFrame}

/-- Before the bytes that decide the length, and before the second check byte, a frame is not complete (R177). -/
theorem receive_incomplete (type : ∀ t ∈ l.head?, isInboundType t = true)
    (short : bodyLength l = none ∨ ∃ n, bodyLength l = some n ∧ l.length < n + 2) : receive l = .incomplete := by
  cases l with
  | nil => rfl
  | cons t rest =>
    rw [receive, if_pos (type t rfl)]
    rcases short with none | ⟨n, some, short⟩
    · rw [none]
    · rw [some]
      exact if_pos short

/-- At its second check byte a frame is complete, and good where the check agrees (R80, R177). -/
theorem receive_complete {n : Nat} (type : ∃ t rest, l = t :: rest ∧ isInboundType t = true) (length : bodyLength l = some n)
    (enough : n + 2 ≤ l.length) (fields : parseBody (l.take n) = some f) :
    receive l = if (l.drop n).take 2 = bytes16 (checkCode (l.take n)) then .good f else .bad := by
  obtain ⟨t, rest, rfl, inbound⟩ := type
  rw [receive, if_pos inbound, length]
  dsimp only
  rw [if_neg (Nat.not_lt.mpr enough), fields]
  exact if_congr beq_iff_eq rfl rfl

/-- A frame sent, with any code in the place of its check code and anything behind it (R177). -/
theorem receive_body (f : InFrame) (w : Word) (more : List Byte) :
    receive (f.body ++ (bytes16 w ++ more)) = if w = checkCode f.body then .good f else .bad := by
  have type : ∃ t rest, f.body ++ (bytes16 w ++ more) = t :: rest ∧ isInboundType t = true := by
    obtain ⟨t, rest, body, inbound⟩ := body_type f
    exact ⟨t, rest ++ (bytes16 w ++ more), congrArg (· ++ (bytes16 w ++ more)) body, inbound⟩
  have enough : f.body.length + 2 ≤ (f.body ++ (bytes16 w ++ more)).length := by
    have checkBytes : (bytes16 w).length = 2 := rfl
    rw [List.length_append, List.length_append, checkBytes]
    omega
  have all : (f.body ++ (bytes16 w ++ more)).take f.body.length = f.body := List.take_left
  have check : ((f.body ++ (bytes16 w ++ more)).drop f.body.length).take 2 = bytes16 w := by
    rw [List.drop_left]
    rfl
  rw [receive_complete type (bodyLength_body f _) enough (by rw [all]; exact parseBody_body f), all, check]
  exact if_congr bytes16_inj rfl rfl

/-- A shorter beginning of a frame (R177). -/
theorem receive_take (f : InFrame) {n : Nat} (short : n < f.bytes.length) : receive (f.bytes.take n) = .incomplete := by
  refine receive_incomplete (fun t first => ?_) ?_
  · obtain ⟨u, rest, body, inbound⟩ := body_type f
    have head : f.bytes.head? = some u := by rw [InFrame.bytes, body]; rfl
    rw [List.head?_take, head] at first
    split at first
    · cases first
    · cases first
      exact inbound
  · have whole : bodyLength f.bytes = some f.body.length := bodyLength_body f _
    refine (bodyLength_append (f.bytes.take n) (f.bytes.drop n)).imp_right fun same => ⟨f.body.length, ?_, ?_⟩
    · rw [same, List.take_append_drop, whole]
    · rw [List.length_take_of_le short.le]
      exact short.trans_eq (List.length_append ..)

theorem receive_otherType {t : Byte} (rest : List Byte) (hello : t ≠ 0x01) (report : t ≠ 0x02) (verdict : t ≠ 0x03) :
    receive (t :: rest) = .bad := by
  have other : ¬ isInboundType t = true := by
    unfold isInboundType
    rw [Bool.or_eq_true, Bool.or_eq_true, decide_eq_true_eq, decide_eq_true_eq, decide_eq_true_eq]
    exact fun type => type.elim (fun type => type.elim hello report) verdict
  rw [receive, if_neg other]

/-! ## Frames sent -/

theorem tagByte (tag : Tag) : tag.setWidth 8 = (0#4 ++ tag : Byte) := by
  revert tag
  decide

end

/-- Settles O54: what a port makes of the bytes of a frame, and the bytes and bits of frames on the lanes. -/
theorem inboundFramesRoundTrip : Obligations.InboundFramesRoundTrip := by
  unfold Obligations.InboundFramesRoundTrip
  refine ⟨fun f => ⟨fun more => ?_, fun n short => receive_take f short, fun w other => ?_⟩,
    fun t rest => receive_otherType rest, fun f => ⟨rfl, ?_⟩, fun b => rfl,
    fun n b rest => ?_, fun f extra gap rest => rfl, by decide +kernel, fun f => ?_⟩
  · rw [InFrame.bytes, withCheck, List.append_assoc, receive_body, if_pos rfl]
  · have judged := receive_body f w []
    rw [List.append_nil] at judged
    exact judged.trans (if_neg other)
  · cases f with
    | hello next reporter => rfl
    | report r =>
      obtain ⟨seq, kind, ignored, mem, addr, master, syndrome⟩ := r
      cases master <;> cases syndrome <;> rfl
    | verdict tag result => rfl
  · rw [List.append_assoc, bytesOnLane_high, bytesOnLane_byteBits]
  · cases f with
    | welcome port expected => rfl
    | ack seq => rfl
    | nak seq reason => cases reason <;> rfl
    | verify tag mem addr =>
      rw [OutFrame.bytes, tagByte]
      rfl
    | cancel tag =>
      rw [OutFrame.bytes, tagByte]
      rfl

end Sys2Proof.Machine
end
